-- ==== Sys2Proof/Word.lean ====
section
/-! DEFINITION. The word types of the machine (R6): bytes of 8 bits, CPU addresses of 16 bits, and the
14-bit addresses of the picture unit's own space (R110). -/

namespace Sys2Proof

/-- Data of 8 bits: every register but the program counter, every memory cell (R6). -/
abbrev Byte := BitVec 8

/-- An address of the CPU space and the program counter, 16 bits (R6, R80). -/
abbrev Word := BitVec 16

/-- An address of the PPU space, 14 bits (R110). -/
abbrev PpuAddr := BitVec 14

end Sys2Proof
end

