-- ==== Sys2Proof/Config.lean ====
section
/-! DEFINITION. What the spec leaves to the implementation (R7) and the free values (U3 to U7, U12 of
93_implementation_defined.md). The free values have no body: nothing can be proved about what they are. -/

namespace Sys2Proof

/-- The launch parameters of R7 that the CPU rules read. They stand in `State` as plain constants, so a
statement about every state holds for every value of them (log entries 1 and 5). -/
structure Params where
  /-- `RESET_A`, R7, R601. -/
  resetA : Byte
  /-- `RESET_X`, R7, R601. -/
  resetX : Byte
  /-- `RESET_Y`, R7, R601. -/
  resetY : Byte
  /-- `RESET_S`, R7, R601. -/
  resetS : Byte
  /-- `RESET_P`, R7, R601; bit 5 is forced to 1 and bit 4 to 0 where reset uses it (R600). -/
  resetP : Byte
  /-- `ILLEGAL_CYCLES`, R7, R315: at least 1. -/
  illegalCycles : Nat
  deriving DecidableEq, Repr

/-- The values R7 and R601 suggest. PRESUMED for the five registers (log entry 1); DESIGN CHOICE for the
cost of the placeholder (log entry 5). Unsafe: the spec leaves all six open. -/
def Config.suggested : Params :=
  { resetA := 0x00, resetX := 0x00, resetY := 0x00, resetS := 0xFD, resetP := 0x24, illegalCycles := 2 }

/-- The `n`-th free byte: what the reads of U3, U4 and U7 return in the bits the spec leaves open.
DESIGN CHOICE of form (log entry 6): safe, since no proof can see a value. -/
opaque Config.freeByte : Nat → Byte

/-- What a read of a write-only PPU register returns (U5, R382): a free byte of the register's number and of how
many bus writes there have been, so that two reads with no write between them agree (R91). DESIGN CHOICE of
form (log entry 23): safe, since no proof can see a value. -/
opaque Config.writeOnlyByte : Nat → Nat → Byte

/-- A colour as the host shows it (R430). -/
structure Rgb where
  red : Byte
  green : Byte
  blue : Byte
  deriving DecidableEq, Repr, Inhabited

/-- `PALETTE_RGB` of R7 and R430: the host's 64 colours, given by no rule (U12, log entry 10). -/
opaque Config.paletteRgb : BitVec 6 → Rgb

end Sys2Proof
end

