-- ==== Sys2Proof/Machine/Memory.lean ====
section
/-! DEFINITION. A memory: the list of its cells in one canonical form, addresses strictly rising and no
cell equal to what an unlisted address reads as. Every array of the spec (`ram`, `PRG`, `CHR`, `chr_ram`,
`prg_ram`, `nt`, `pal`, `oam`, `frame`) is one of these, indexed from 0. -/

namespace Sys2Proof.Machine

/-- Cells by index. -/
abbrev Memory := List Host.Cell

/-- What an index that the list does not hold reads as. DESIGN CHOICE (log entry 2), unsafe: the contents
at power-on are the parameters RAM_INIT, NT_INIT, ... of R7, of which this is one value. -/
def unlistedByte : Byte := 0x00

/-- The byte at index `a`. -/
def Memory.read : Memory → Nat → Byte
  | [], _ => unlistedByte
  | (k, v) :: rest, a => if a = k then v else Memory.read rest a

/-- The memory after `v` is stored at index `a`, kept canonical. -/
def Memory.write : Memory → Nat → Byte → Memory
  | [], a, v => if v = unlistedByte then [] else [(a, v)]
  | (k, w) :: rest, a, v =>
    if a < k then
      if v = unlistedByte then (k, w) :: rest else (a, v) :: (k, w) :: rest
    else if a = k then
      if v = unlistedByte then rest else (a, v) :: rest
    else (k, w) :: Memory.write rest a v

/-- The canonical form from index `low` on, below `size`. -/
def Memory.wfFrom (size : Nat) : Nat → Memory → Bool
  | _, [] => true
  | low, (k, v) :: rest =>
    decide (low ≤ k) && decide (k < size) && decide (v ≠ unlistedByte) && Memory.wfFrom size (k + 1) rest

/-- The canonical form of an array of `size` bytes. -/
def Memory.wf (size : Nat) (m : Memory) : Bool := Memory.wfFrom size 0 m

end Sys2Proof.Machine
end

