-- ==== Sys2Proof/Machine/State.lean ====
section
/-! DEFINITION. The state of the machine: everything 10_state.md gives it (R20 to R51), as plain data, and
its value after reset (R52, R600). -/

namespace Sys2Proof.Machine

/-- CPU registers and the remaining-cycles counter (R21 to R24, R26, R31). -/
structure Cpu where
  /-- `A`, R21. -/
  a : Byte
  /-- `X`, R22. -/
  x : Byte
  /-- `Y`, R22. -/
  y : Byte
  /-- `S`, R23: the low byte of a stack address in page 1. -/
  s : Byte
  /-- `P`, R26: C, Z, I, D, B, U, V, N from bit 0 to bit 7. -/
  p : Byte
  /-- `PC`, R24. -/
  pc : Word
  /-- `cyc`, R31: CPU clocks left before the next instruction executes. -/
  cyc : Nat
  deriving DecidableEq, Repr

/-- The DMA controller (R36). -/
structure Dma where
  /-- `dma_enable`: a transfer is armed or running. -/
  enable : Bool
  /-- `dma_wait`: waiting for alignment. -/
  wait : Bool
  /-- `dma_page`: the source page. -/
  page : Byte
  /-- `dma_index`: the destination index. -/
  index : Byte
  /-- `dma_data`: the byte read in the read half. -/
  data : Byte
  deriving DecidableEq, Repr

/-- The picture unit: counters, registers, address state, pipeline, memories and outputs (R39 to R45). -/
structure Ppu where
  /-- `nmi_pending`, R39. -/
  nmiPending : Bool
  /-- `scanline`, R40: -1 to 260. -/
  scanline : Int
  /-- `cycle`, R40: 0 to 340. -/
  cycle : Nat
  /-- `ppu_control`, R41, R383. -/
  control : Byte
  /-- `ppu_mask`, R41, R384. -/
  mask : Byte
  /-- `ppu_status` VerticalBlank, R41, R385. -/
  vblank : Bool
  /-- `ppu_status` SpriteZeroHit, R41: never set (R435). -/
  sprite0 : Bool
  /-- `ppu_status` SpriteOverflow, R41: never set (R435). -/
  overflow : Bool
  /-- `vram`, R42, R381. -/
  vram : BitVec 15
  /-- `tram`, R42, R381. -/
  tram : BitVec 15
  /-- `fine_x`, R42. -/
  fineX : BitVec 3
  /-- `addr_latch`, R42. -/
  addrLatch : Bool
  /-- `data_buffer`, R42: the read buffer of register 7. -/
  dataBuffer : Byte
  /-- `oam_addr`, R42. -/
  oamAddr : Byte
  /-- `bg_next_id`, R43. -/
  bgNextId : Byte
  /-- `bg_next_attr`, R43: 2 bits used. -/
  bgNextAttr : BitVec 2
  /-- `bg_next_lsb`, R43. -/
  bgNextLsb : Byte
  /-- `bg_next_msb`, R43. -/
  bgNextMsb : Byte
  /-- `sh_pat_lo`, R43. -/
  shPatLo : BitVec 16
  /-- `sh_pat_hi`, R43. -/
  shPatHi : BitVec 16
  /-- `sh_att_lo`, R43. -/
  shAttLo : BitVec 16
  /-- `sh_att_hi`, R43. -/
  shAttHi : BitVec 16
  /-- `nt[0]`, R44: 1024 bytes. -/
  nt0 : Memory
  /-- `nt[1]`, R44: 1024 bytes. -/
  nt1 : Memory
  /-- `pal`, R44: 32 bytes. -/
  pal : Memory
  /-- `oam`, R44, R118: 256 bytes. -/
  oam : Memory
  /-- `frame`, R45: the 6-bit colour index of row `y`, column `x` at index `256 * y + x`. -/
  frame : Memory
  /-- `frame_complete`, R45: set by the PPU, cleared by the host. -/
  frameComplete : Bool
  deriving DecidableEq, Repr

/-- An envelope generator (R47, R48, R480). -/
structure Envelope where
  /-- `env_start`. -/
  start : Bool
  /-- `env_loop`, and `halt` of the length counter: one register bit under two names (R47, R463), stored
  once (log entry 11). -/
  loop : Bool
  /-- `env_const`. -/
  const : Bool
  /-- `env_vol`. -/
  vol : BitVec 4
  /-- `env_div`. -/
  div : BitVec 4
  /-- `env_decay`. -/
  decay : BitVec 4
  deriving DecidableEq, Repr

/-- A sweep unit (R47, R485). -/
structure Sweep where
  /-- `sw_enable`. -/
  enable : Bool
  /-- `sw_period`. -/
  period : BitVec 3
  /-- `sw_negate`. -/
  negate : Bool
  /-- `sw_shift`. -/
  shift : BitVec 3
  /-- `sw_reload`. -/
  reload : Bool
  /-- `sw_div`. -/
  div : BitVec 3
  deriving DecidableEq, Repr

/-- A pulse channel (R47). -/
structure Pulse where
  /-- `enable`. -/
  enable : Bool
  /-- `duty`. -/
  duty : BitVec 2
  /-- `seq_pos`. -/
  seqPos : BitVec 3
  /-- `timer`. -/
  timer : BitVec 11
  /-- `timer_reload`. -/
  timerReload : BitVec 11
  /-- `length`. -/
  length : Byte
  /-- The envelope, with `halt` as its loop bit. -/
  env : Envelope
  /-- The sweep unit. -/
  sweep : Sweep
  deriving DecidableEq, Repr

/-- The noise channel (R48). -/
structure Noise where
  /-- `enable`. -/
  enable : Bool
  /-- `length`. -/
  length : Byte
  /-- The envelope, with `halt` as its loop bit. -/
  env : Envelope
  /-- `n_mode`. -/
  mode : Bool
  /-- `n_period`. -/
  period : BitVec 4
  /-- `n_timer`. -/
  timer : BitVec 12
  /-- `n_lfsr`. -/
  lfsr : BitVec 15
  deriving DecidableEq, Repr

/-- The audio unit (R46 to R48). -/
structure Apu where
  /-- `apu_clock`, R46: counts ticks. -/
  clock : Nat
  /-- `seq_count`, R46. -/
  seqCount : Nat
  /-- Pulse channel 1. -/
  pulse1 : Pulse
  /-- Pulse channel 2. -/
  pulse2 : Pulse
  /-- The noise channel. -/
  noise : Noise
  deriving DecidableEq, Repr

/-- Mapper1's registers and PRG-RAM (R50). -/
structure Mapper1 where
  /-- `m1_load`, the serial load register. -/
  load : BitVec 5
  /-- `m1_count`, writes accumulated so far: 0 to 4. -/
  count : Nat
  /-- `m1_control`, R534. -/
  control : BitVec 5
  /-- `m1_chr_lo`. -/
  chrLo : BitVec 5
  /-- `m1_chr_hi`. -/
  chrHi : BitVec 5
  /-- `m1_prg`. -/
  prg : BitVec 5
  /-- `prg_ram`: 8192 bytes. -/
  prgRam : Memory
  deriving DecidableEq, Repr

/-- The mapper of the cartridge: `MAPPER_ID` 0 has no mutable state (R51), 1 has Mapper1's. -/
inductive Mapper where
  | mapper0
  | mapper1 (regs : Mapper1)
  deriving DecidableEq, Repr

/-- Pattern memory (R49, R529): CHR ROM of `banks` x 8192 bytes, or 8192 bytes of `chr_ram`. -/
inductive Pattern where
  | rom (banks : Nat) (data : Memory)
  | ram (data : Memory)
  deriving DecidableEq, Repr

/-- `MIRROR_HINT` of R7. -/
inductive MirrorHint where
  | horizontal
  | vertical
  deriving DecidableEq, Repr

/-- The mirroring mode enum of R49. -/
inductive Mirror where
  | horizontal
  | vertical
  | oneScreenLow
  | oneScreenHigh
  | hardwareDetermined
  deriving DecidableEq, Repr

/-- A live mirroring mode: `hardwareDetermined` never reaches the nametable decode (R52, R114, R526). -/
inductive Layout where
  | horizontal
  | vertical
  | oneScreenLow
  | oneScreenHigh
  deriving DecidableEq, Repr

/-- The cartridge (R49). -/
structure Cartridge where
  /-- `MAPPER_ID` and the mapper's state. -/
  mapper : Mapper
  /-- `prg_banks`: 16 KiB banks, at least 1 (R529). -/
  prgBanks : Nat
  /-- `PRG`: `prg_banks` x 16384 bytes; no step changes it. -/
  prg : Memory
  /-- `CHR` or `chr_ram`. -/
  pattern : Pattern
  /-- `MIRROR_HINT`. -/
  hint : MirrorHint
  /-- The mapper's `irq_state` (R39, R527): 0 in every reachable state (log entry 12). -/
  irqState : Bool
  deriving DecidableEq, Repr

/-- The whole machine. -/
structure State where
  /-- CPU registers. -/
  cpu : Cpu
  /-- `ram`, R34: 2048 bytes. -/
  ram : Memory
  /-- `open_bus`, R37. -/
  openBus : Byte
  /-- `ctrl_shift[0]`, R38. -/
  ctrlShift0 : Byte
  /-- `ctrl_shift[1]`, R38. -/
  ctrlShift1 : Byte
  /-- `CONTROLLER[0]`, R7, R365: the host's snapshot of controller 1. -/
  controller0 : Byte
  /-- `CONTROLLER[1]`, R7, R365. -/
  controller1 : Byte
  /-- `system_clock_count`, R35. -/
  clock : Nat
  /-- The DMA controller. -/
  dma : Dma
  /-- The picture unit. -/
  ppu : Ppu
  /-- The audio unit. -/
  apu : Apu
  /-- The cartridge. -/
  cart : Cartridge
  /-- The launch parameters of R7: no step changes them. -/
  params : Params
  /-- The MODEL's own counter of free bytes drawn (log entry 6). -/
  draws : Nat
  /-- The MODEL's own counter of bus writes (log entry 23). -/
  writes : Nat
  deriving DecidableEq, Repr

/-- Reasons the machine stops with a fault: none. R161 and R560: no operation ever raises an error, so
nobody raises one and the type has no constructor (safe and exact). -/
inductive Fault where
  deriving DecidableEq, Repr

/-- Reasons an instruction has no meaning here. -/
inductive Refusal where
  /-- Raised by an arm of `exec` whose instruction has no meaning yet; no arm does. Safe. -/
  | notModelled (mnemonic : String)
  deriving DecidableEq, Repr

/-- What one instruction or one step answers. -/
abbrev Outcome := Host.Outcome State Fault Refusal

/-- The DMA controller after reset (R52, R600). -/
def Dma.reset : Dma := { enable := false, wait := true, page := 0, index := 0, data := 0 }

/-- Every register, latch, shifter and counter of the PPU at 0, the memories as given (R52, R600). -/
def Ppu.reset (nt0 nt1 pal oam frame : Memory) : Ppu :=
  { nmiPending := false, scanline := 0, cycle := 0, control := 0, mask := 0,
    vblank := false, sprite0 := false, overflow := false,
    vram := 0, tram := 0, fineX := 0, addrLatch := false, dataBuffer := 0, oamAddr := 0,
    bgNextId := 0, bgNextAttr := 0, bgNextLsb := 0, bgNextMsb := 0,
    shPatLo := 0, shPatHi := 0, shAttLo := 0, shAttHi := 0,
    nt0 := nt0, nt1 := nt1, pal := pal, oam := oam, frame := frame, frameComplete := false }

/-- An envelope after reset. -/
def Envelope.reset : Envelope :=
  { start := false, loop := false, const := false, vol := 0, div := 0, decay := 0 }

/-- A pulse channel after reset. -/
def Pulse.reset : Pulse :=
  { enable := false, duty := 0, seqPos := 0, timer := 0, timerReload := 0, length := 0,
    env := Envelope.reset,
    sweep := { enable := false, period := 0, negate := false, shift := 0, reload := false, div := 0 } }

/-- The audio unit after reset: all 0 but `n_lfsr` = 1 (R52, R600). -/
def Apu.reset : Apu :=
  { clock := 0, seqCount := 0, pulse1 := Pulse.reset, pulse2 := Pulse.reset,
    noise := { enable := false, length := 0, env := Envelope.reset, mode := false, period := 0,
               timer := 0, lfsr := 1 } }

/-- The cartridge of the reset state: no program. Mapper0, one PRG bank with nothing listed, CHR-RAM,
Horizontal. DESIGN CHOICE (log entry 4), unsafe: the spec makes every one of them a launch parameter. -/
def Cartridge.empty : Cartridge :=
  { mapper := .mapper0, prgBanks := 1, prg := [], pattern := .ram [], hint := .horizontal, irqState := false }

/-- The machine right after reset (R52, R600), with the launch parameters the log names: the registers
RESET_A, RESET_X, RESET_Y, RESET_S, RESET_P (log entry 1), `PC` the reset vector of the empty cartridge
(log entry 4), `cyc` 8, memories with nothing listed (log entry 2), `open_bus` 0 (log entry 3), controller
snapshots 0 (log entry 8). -/
def State.reset : State :=
  { cpu := { a := 0x00, x := 0x00, y := 0x00, s := 0xFD, p := 0x24, pc := 0x0000, cyc := 8 },
    ram := [], openBus := 0x00,
    ctrlShift0 := 0x00, ctrlShift1 := 0x00, controller0 := 0x00, controller1 := 0x00,
    clock := 0, dma := Dma.reset, ppu := Ppu.reset [] [] [] [] [], apu := Apu.reset,
    cart := Cartridge.empty, params := Config.suggested, draws := 0, writes := 0 }

end Sys2Proof.Machine
end

