-- ==== Sys2Proof/Machine/Access.lean ====
section
/-! DEFINITION. The one way to write each field of the state. No register is hard-wired or banked (R21 to
R24), so reads are the fields themselves; the status flags are read in Flags.lean. -/

namespace Sys2Proof.Machine

/-- `A <- v`. -/
def State.setA (s : State) (v : Byte) : State := { s with cpu := { s.cpu with a := v } }
/-- `X <- v`. -/
def State.setX (s : State) (v : Byte) : State := { s with cpu := { s.cpu with x := v } }
/-- `Y <- v`. -/
def State.setY (s : State) (v : Byte) : State := { s with cpu := { s.cpu with y := v } }
/-- `S <- v`. -/
def State.setS (s : State) (v : Byte) : State := { s with cpu := { s.cpu with s := v } }
/-- `P <- v`. -/
def State.setP (s : State) (v : Byte) : State := { s with cpu := { s.cpu with p := v } }
/-- `PC <- w`. -/
def State.setPc (s : State) (w : Word) : State := { s with cpu := { s.cpu with pc := w } }
/-- `cyc <- n`. -/
def State.setCyc (s : State) (n : Nat) : State := { s with cpu := { s.cpu with cyc := n } }
/-- The system RAM. -/
def State.setRam (s : State) (m : Memory) : State := { s with ram := m }
/-- What every bus write does first (R85, R90): `open_bus <- v`; the model's own count of bus writes goes up
(log entry 23). -/
def State.noteWrite (s : State) (v : Byte) : State := { s with openBus := v, writes := s.writes + 1 }
/-- `ctrl_shift[0] <- v`. -/
def State.setCtrlShift0 (s : State) (v : Byte) : State := { s with ctrlShift0 := v }
/-- `ctrl_shift[1] <- v`. -/
def State.setCtrlShift1 (s : State) (v : Byte) : State := { s with ctrlShift1 := v }
/-- `CONTROLLER[0] <- v`: the host's doing (R370). -/
def State.setController0 (s : State) (v : Byte) : State := { s with controller0 := v }
/-- `CONTROLLER[1] <- v`: the host's doing (R370). -/
def State.setController1 (s : State) (v : Byte) : State := { s with controller1 := v }
/-- `system_clock_count <- n`. -/
def State.setClock (s : State) (n : Nat) : State := { s with clock := n }
/-- The DMA controller. -/
def State.setDma (s : State) (d : Dma) : State := { s with dma := d }
/-- The picture unit. -/
def State.setPpu (s : State) (p : Ppu) : State := { s with ppu := p }
/-- The audio unit. -/
def State.setApu (s : State) (a : Apu) : State := { s with apu := a }
/-- The cartridge. -/
def State.setCart (s : State) (c : Cartridge) : State := { s with cart := c }
/-- The model's count of free bytes drawn. -/
def State.setDraws (s : State) (n : Nat) : State := { s with draws := n }

/-- `f` applied where the condition holds: a pseudocode `if c then ...` with no else. -/
def State.onlyIf (s : State) (c : Bool) (f : State → State) : State := if c then f s else s

end Sys2Proof.Machine
end

