-- ==== Sys2Proof/Machine/Bits.lean ====
section
/-! DEFINITION. Bit-field and byte-order helpers (R8, R92), used by the decoder and the machine. -/

namespace Sys2Proof

/-- `hi ++ lo` of R8 and R92: the 16-bit quantity whose low and high bytes are `lo` and `hi`. -/
def wordOf (lo hi : Byte) : Word := hi ++ lo

/-- The low byte `w[7:0]`. -/
def lowByte (w : Word) : Byte := w.extractLsb' 0 8

/-- The high byte `w[15:8]`, the page number (R12). -/
def highByte (w : Word) : Byte := w.extractLsb' 8 8

/-- `zext_16(v)` of R8. -/
def zext16 (v : Byte) : Word := v.setWidth 16

/-- `sext_16(v)` of R8 and R175. -/
def sext16 (v : Byte) : Word := v.signExtend 16

/-- A condition used as a bit of a byte, in position `i` (R8). -/
def bitAt (i : Nat) (b : Bool) : Byte := if b then 1#8 <<< i else 0#8

/-- `v` with bit `i` set to `b`. -/
def withBit (v : Byte) (i : Nat) (b : Bool) : Byte := (v &&& ~~~(1#8 <<< i)) ||| bitAt i b

/-- Byte `k` of a number, bits `8k+7` to `8k`. -/
def byteOfNat (w k : Nat) : Byte := BitVec.ofNat 8 (w >>> (8 * k))

end Sys2Proof
end

