-- ==== Sys2Proof/Machine/Apu.lean ====
section
/-! DEFINITION. The audio unit: tables, registers, frame sequencer, pulse sequencer, envelope, length
counter, sweep unit and noise channel (48_apu.md). -/

namespace Sys2Proof.Machine

/-- `LENGTH_TABLE` of R461. -/
def lengthTable : List Byte :=
  [10, 254, 20, 2, 40, 4, 80, 6] ++ [160, 8, 60, 10, 14, 12, 26, 14] ++
  [12, 16, 24, 18, 48, 20, 96, 22] ++ [192, 24, 72, 26, 16, 28, 32, 30]

/-- `DUTY` of R461: waveform row by row, position 0 first. -/
def dutyTable : List (List Bool) :=
  [[false, true, false, false, false, false, false, false],
   [false, true, true, false, false, false, false, false],
   [false, true, true, true, true, false, false, false],
   [true, false, false, true, true, true, true, true]]

/-- `NOISE_PERIOD` of R461, in CPU clocks. -/
def noisePeriodTable : List Nat :=
  [4, 8, 16, 32, 64, 96, 128, 160] ++ [202, 254, 380, 508, 762, 1016, 2034, 4068]

/-- `LENGTH_TABLE[v[7:3]]`. -/
def lengthLoad (v : Byte) : Byte := lengthTable.getD (v.extractLsb' 3 5).toNat 0

/-- `DUTY[duty][pos]`. -/
def dutyBit (duty : BitVec 2) (pos : BitVec 3) : Bool := (dutyTable.getD duty.toNat []).getD pos.toNat false

/-- `halt`, the same register bit as the envelope's loop bit (R463). -/
def Pulse.halt (p : Pulse) : Bool := p.env.loop

/-- `halt` of the noise channel (R464). -/
def Noise.halt (n : Noise) : Bool := n.env.loop

/-- The first register of a channel: halt and loop, constant volume, volume (R463, R464). -/
def Envelope.control (e : Envelope) (v : Byte) : Envelope :=
  { e with loop := v.getLsbD 5, const := v.getLsbD 4, vol := v.extractLsb' 0 4 }

/-- `PulseRegWrite(p, r, v)` of R463. -/
def Pulse.regWrite (p : Pulse) (r : Nat) (v : Byte) : Pulse :=
  match r with
  | 0 => { p with duty := v.extractLsb' 6 2, env := p.env.control v }
  | 1 => { p with sweep := { p.sweep with enable := v.getLsbD 7, period := v.extractLsb' 4 3,
                                          negate := v.getLsbD 3, shift := v.extractLsb' 0 3,
                                          reload := true } }
  | 2 => { p with timerReload := (p.timerReload &&& 0x700) ||| v.setWidth 11 }
  | _ => { p with timerReload := ((v &&& 0x07).setWidth 11 <<< 8) ||| (p.timerReload &&& 0x0FF)
                  length := if p.enable then lengthLoad v else p.length
                  seqPos := 0
                  env := { p.env with start := true } }

/-- `NoiseRegWrite(r, v)` of R464. -/
def Noise.regWrite (n : Noise) (r : Nat) (v : Byte) : Noise :=
  match r with
  | 0 => { n with env := n.env.control v }
  | 1 => n
  | 2 => { n with mode := v.getLsbD 7, period := v.extractLsb' 0 4 }
  | _ => { n with length := if n.enable then lengthLoad v else n.length
                  env := { n.env with start := true } }

/-- `ApuRegWrite(addr, v)` of R462, for 0x4000 to 0x4013 and 0x4017: the triangle and DMC registers and the
frame register (R467) have no effect. -/
def Apu.regWrite (u : Apu) (a : Word) (v : Byte) : Apu :=
  let r := (a &&& 3).toNat
  if 0x4000 ≤ a ∧ a ≤ 0x4003 then { u with pulse1 := u.pulse1.regWrite r v }
  else if 0x4004 ≤ a ∧ a ≤ 0x4007 then { u with pulse2 := u.pulse2.regWrite r v }
  else if 0x400C ≤ a ∧ a ≤ 0x400F then { u with noise := u.noise.regWrite r v }
  else u

/-- A pulse channel's enable bit written (R465): clearing it silences the channel. -/
def Pulse.setEnable (p : Pulse) (b : Bool) : Pulse :=
  { p with enable := b, length := if b then p.length else 0 }

/-- The noise channel's enable bit written (R465). -/
def Noise.setEnable (n : Noise) (b : Bool) : Noise :=
  { n with enable := b, length := if b then n.length else 0 }

/-- `ApuControlWrite(v)` of R465. -/
def Apu.controlWrite (u : Apu) (v : Byte) : Apu :=
  { u with pulse1 := u.pulse1.setEnable (v.getLsbD 0)
           pulse2 := u.pulse2.setEnable (v.getLsbD 1)
           noise := u.noise.setEnable (v.getLsbD 3) }

/-- The three defined bits of a status read (R466). -/
def Apu.statusBits (u : Apu) : Byte :=
  bitAt 0 (u.pulse1.length != 0) ||| bitAt 1 (u.pulse2.length != 0) ||| bitAt 3 (u.noise.length != 0)

/-- `EnvClock(ch)` of R480. -/
def Envelope.tick (e : Envelope) : Envelope :=
  if e.start then { e with start := false, decay := 15, div := e.vol }
  else if e.div = 0 then
    { e with div := e.vol
             decay := if e.decay ≠ 0 then e.decay - 1 else if e.loop then 15 else e.decay }
  else { e with div := e.div - 1 }

/-- `EnvOut(ch)` of R481. -/
def Envelope.out (e : Envelope) : BitVec 4 := if e.const then e.vol else e.decay

/-- `LenClock` of R483: `halt`, `length`. -/
def lengthTick (halt : Bool) (length : Byte) : Byte :=
  if halt = false ∧ length ≠ 0 then length - 1 else length

/-- The two pulse channels, which negate a sweep differently (R485). -/
inductive PulseId where
  | one
  | two
  deriving DecidableEq, Repr

/-- `SweepTarget(p)` of R485; subtraction on `Nat` stops at 0, as the rule's `max` does. -/
def Pulse.sweepTarget (p : Pulse) (id : PulseId) : Nat :=
  let reload := p.timerReload.toNat
  let c := reload >>> p.sweep.shift.toNat
  if p.sweep.negate then
    match id with
    | .one => reload - c - 1
    | .two => reload - c
  else reload + c

/-- `SweepMute(p)` of R485. -/
def Pulse.sweepMute (p : Pulse) (id : PulseId) : Bool :=
  decide (p.timerReload.toNat < 8) || decide (p.sweepTarget id > 0x7FF)

/-- `SweepClock(p)` of R486: the retuning uses the values before the divider changes. -/
def Pulse.sweepTick (p : Pulse) (id : PulseId) : Pulse :=
  let retune := p.sweep.div == 0 && p.sweep.enable && p.sweep.shift != 0 && !p.sweepMute id
  let reload := if retune then BitVec.ofNat 11 (p.sweepTarget id) else p.timerReload
  if p.sweep.div = 0 ∨ p.sweep.reload = true then
    { p with timerReload := reload, sweep := { p.sweep with div := p.sweep.period, reload := false } }
  else { p with timerReload := reload, sweep := { p.sweep with div := p.sweep.div - 1 } }

/-- `PulseTimerClock(p)` of R475. -/
def Pulse.timerTick (p : Pulse) : Pulse :=
  if p.timer = 0 then { p with timer := p.timerReload, seqPos := p.seqPos + 1 }
  else { p with timer := p.timer - 1 }

/-- `PulseOut(p)` of R476: the channel's level, a function of the state. -/
def Pulse.out (p : Pulse) (id : PulseId) : BitVec 4 :=
  if p.length = 0 ∨ dutyBit p.duty p.seqPos = false ∨ p.sweepMute id = true then 0 else p.env.out

/-- `NoiseTimerClock()` of R490. -/
def Noise.timerTick (n : Noise) : Noise :=
  if n.timer = 0 then
    let fb := n.lfsr.getLsbD 0 ^^ (if n.mode then n.lfsr.getLsbD 6 else n.lfsr.getLsbD 1)
    { n with timer := BitVec.ofNat 12 (noisePeriodTable.getD n.period.toNat 4 / 2 - 1)
             lfsr := (n.lfsr >>> 1) ||| (if fb then 0x4000 else 0) }
  else { n with timer := n.timer - 1 }

/-- `NoiseOut` of R491. -/
def Noise.out (n : Noise) : BitVec 4 :=
  if n.length = 0 ∨ n.lfsr.getLsbD 0 = true then 0 else n.env.out

/-- `QuarterFrame()` of R471: the envelopes. -/
def Apu.quarterFrame (u : Apu) : Apu :=
  { u with pulse1 := { u.pulse1 with env := u.pulse1.env.tick }
           pulse2 := { u.pulse2 with env := u.pulse2.env.tick }
           noise := { u.noise with env := u.noise.env.tick } }

/-- A pulse channel at a half-frame event: its length counter, then its sweep unit (R472). -/
def Pulse.halfFrame (p : Pulse) (id : PulseId) : Pulse :=
  { p with length := lengthTick p.halt p.length }.sweepTick id

/-- `HalfFrame()` of R472: length counters and sweep units. -/
def Apu.halfFrame (u : Apu) : Apu :=
  { u with pulse1 := u.pulse1.halfFrame .one
           pulse2 := u.pulse2.halfFrame .two
           noise := { u.noise with length := lengthTick u.noise.halt u.noise.length } }

/-- The four offsets of quarter-frame events (R470). -/
def isQuarterFrame (n : Nat) : Bool := n == 3729 || n == 7457 || n == 11186 || n == 14916

/-- The two offsets of half-frame events (R470). -/
def isHalfFrame (n : Nat) : Bool := n == 7457 || n == 14916

/-- The work of one APU cycle, 6 ticks long (R470). -/
def Apu.cycle (u : Apu) : Apu :=
  let n := u.seqCount + 1
  let u := { u with seqCount := if n = 14916 then 0 else n }
  let u := if isQuarterFrame n then u.quarterFrame else u
  let u := if isHalfFrame n then u.halfFrame else u
  { u with pulse1 := u.pulse1.timerTick, pulse2 := u.pulse2.timerTick, noise := u.noise.timerTick }

/-- `ApuClock()` of R470: every tick, dividing by 6 itself (R343). -/
def Apu.tick (u : Apu) : Apu :=
  let v := if u.clock % 6 = 0 then u.cycle else u
  { v with clock := u.clock + 1 }

end Sys2Proof.Machine
end

