-- ==== Sys2Proof/Machine/Flags.lean ====
section
/-! DEFINITION. The status register `P` (R26 to R30) and every flag computation of the instruction set: the
adder and subtractor (R231, R232), comparison (R237), bit test (R236), shifts and rotates (R271 to R274),
and the images of `P` on the stack (R300). -/

namespace Sys2Proof.Machine

/-- The fields of `P`, R9 and R26. -/
inductive Flag where
  | c
  | z
  | i
  | d
  | b
  | u
  | v
  | n
  deriving DecidableEq, Repr

/-- The bit of `P` that holds a flag (R26). -/
def Flag.index : Flag → Nat
  | .c => 0
  | .z => 1
  | .i => 2
  | .d => 3
  | .b => 4
  | .u => 5
  | .v => 6
  | .n => 7

/-- A flag of a status byte. -/
def flagIn (p : Byte) (f : Flag) : Bool := p.getLsbD f.index

/-- A flag of the machine. -/
def State.flag (s : State) (f : Flag) : Bool := flagIn s.cpu.p f

/-- `P.f <- b`: the other seven bits stay. -/
def State.setFlag (s : State) (f : Flag) (b : Bool) : State := s.setP (withBit s.cpu.p f.index b)

/-- `SetZN(v)`, R30. -/
def State.setZN (s : State) (v : Byte) : State := (s.setFlag .z (v == 0)).setFlag .n (v.getLsbD 7)

/-- `PushedP(brk)` of R300: bit 5 always 1, bit 4 the argument. -/
def pushedP (p : Byte) (brk : Bool) : Byte := (p &&& 0xCF) ||| 0x20 ||| (if brk then 0x10 else 0x00)

/-- What `LoadP(b)` of R300 puts into `P`: bits 4 and 5 of the pulled byte are ignored. -/
def loadedP (b : Byte) : Byte := (b &&& 0xCF) ||| 0x20

/-- The result of an addition or subtraction with the flags it gives. -/
structure Sum where
  value : Byte
  carry : Bool
  overflow : Bool
  deriving DecidableEq, Repr

/-- ADC's arithmetic, R231: `t = A + m + C`, binary whatever `P.D` is. -/
def addWithCarry (a m : Byte) (c : Bool) : Sum :=
  let t := a.toNat + m.toNat + c.toNat
  let r := BitVec.ofNat 8 t
  { value := r
    carry := decide (t > 0xFF)
    overflow := (~~~(a ^^^ m) &&& (a ^^^ r) &&& 0x80) != 0 }

/-- SBC's arithmetic, R232: addition of the inverted operand, with its own overflow formula. -/
def subWithBorrow (a m : Byte) (c : Bool) : Sum :=
  let v := m ^^^ 0xFF
  let t := a.toNat + v.toNat + c.toNat
  let r := BitVec.ofNat 8 t
  { value := r
    carry := decide (t > 0xFF)
    overflow := ((r ^^^ a) &&& (r ^^^ v) &&& 0x80) != 0 }

/-- The flags of an addition or subtraction, in the order of R231 and R232: C, Z, V, N. -/
def State.setSumFlags (s : State) (r : Sum) : State :=
  (((s.setFlag .c r.carry).setFlag .z (r.value == 0)).setFlag .v r.overflow).setFlag .n (r.value.getLsbD 7)

/-- The flags of a comparison of the register value `r` with `m`, R237: C = (r >= m) unsigned, Z = equal,
N = bit 7 of the difference. -/
def State.setCompareFlags (s : State) (r m : Byte) : State :=
  ((s.setFlag .c (decide (m ≤ r))).setFlag .z (r == m)).setFlag .n ((r - m).getLsbD 7)

/-- The flags of BIT, R236: Z from `A & m`, N and V from bits 7 and 6 of `m`. -/
def State.setBitTestFlags (s : State) (m : Byte) : State :=
  ((s.setFlag .z ((s.cpu.a &&& m) == 0)).setFlag .n (m.getLsbD 7)).setFlag .v (m.getLsbD 6)

/-- The result of a shift or rotate by one bit and the bit shifted out. -/
structure Shifted where
  value : Byte
  carry : Bool
  deriving DecidableEq, Repr

/-- ASL, R271; the old carry is not used. -/
def shiftLeft (m : Byte) (_c : Bool) : Shifted := { value := m <<< 1, carry := m.getLsbD 7 }

/-- LSR, R272; the old carry is not used. -/
def shiftRight (m : Byte) (_c : Bool) : Shifted := { value := m >>> 1, carry := m.getLsbD 0 }

/-- ROL, R273: the old carry enters at bit 0. -/
def rotateLeft (m : Byte) (c : Bool) : Shifted := { value := (m <<< 1) ||| bitAt 0 c, carry := m.getLsbD 7 }

/-- ROR, R274: the old carry enters at bit 7. -/
def rotateRight (m : Byte) (c : Bool) : Shifted := { value := bitAt 7 c ||| (m >>> 1), carry := m.getLsbD 0 }

/-- The flags of a shift or rotate, R271 to R274: C, then Z and N of the result. -/
def State.setShiftFlags (s : State) (r : Shifted) : State := (s.setFlag .c r.carry).setZN r.value

end Sys2Proof.Machine
end

