-- ==== Sys2Proof/Machine/Cartridge.lean ====
section
/-! DEFINITION. The cartridge address decoder and mappers 0 and 1 (49_cartridge_mappers.md). -/

namespace Sys2Proof.Machine

/-- `|PRG|` in bytes (R529). -/
def Cartridge.prgSize (c : Cartridge) : Nat := c.prgBanks * 16384

/-- The PRG mode of `m1_control`, bits 3:2 (R534). -/
def Mapper1.prgMode (r : Mapper1) : Nat := (r.control.extractLsb' 2 2).toNat

/-- The CHR mode of `m1_control`, bit 4 (R534): 1 is two 4 KiB banks. -/
def Mapper1.chrMode (r : Mapper1) : Bool := r.control.getLsbD 4

/-- Mapper0's offset into PRG before it is reduced modulo the size (R522). -/
def mapper0PrgOffset (banks : Nat) (a : Word) : Nat :=
  (a &&& (if 1 < banks then 0x7FFF else 0x3FFF)).toNat

/-- `M1PrgOffset(a)` of R535. -/
def mapper1PrgOffset (r : Mapper1) (banks : Nat) (a : Word) : Nat :=
  match r.prgMode with
  | 2 => if a < 0xC000 then 0 * 0x4000 + (a &&& 0x3FFF).toNat
         else (r.prg.extractLsb' 0 4).toNat * 0x4000 + (a &&& 0x3FFF).toNat
  | 3 => if a < 0xC000 then (r.prg.extractLsb' 0 4).toNat * 0x4000 + (a &&& 0x3FFF).toNat
         else (banks - 1) * 0x4000 + (a &&& 0x3FFF).toNat
  | _ => (r.prg.extractLsb' 1 3).toNat * 0x8000 + (a &&& 0x7FFF).toNat

/-- The index into PRG that a CPU address at or above 0x8000 shows (R522, R529, R531, R535). -/
def Cartridge.prgIndex (c : Cartridge) (a : Word) : Nat :=
  (match c.mapper with
   | .mapper0 => mapper0PrgOffset c.prgBanks a
   | .mapper1 r => mapper1PrgOffset r c.prgBanks a) % c.prgSize

/-- The addresses of Mapper1's PRG-RAM (R531, R532). -/
def inPrgRam (a : Word) : Bool := decide (0x6000 ≤ a) && decide (a ≤ 0x7FFF)

/-- The index into `prg_ram` of one of those addresses. -/
def prgRamIndex (a : Word) : Nat := (a &&& 0x1FFF).toNat

/-- `CartCpuRead(a)` of R521, R522, R531: `none` is not claimed. -/
def Cartridge.cpuRead (c : Cartridge) (a : Word) : Option Byte :=
  match c.mapper with
  | .mapper0 => if 0x8000 ≤ a then some (c.prg.read (c.prgIndex a)) else none
  | .mapper1 r =>
    if inPrgRam a then some (r.prgRam.read (prgRamIndex a))
    else if 0x8000 ≤ a then some (c.prg.read (c.prgIndex a))
    else none

/-- The serial load register, R530: a write of `v` to `a`, at or above 0x8000. -/
def Mapper1.serialWrite (r : Mapper1) (a : Word) (v : Byte) : Mapper1 :=
  if v.getLsbD 7 then
    { r with load := 0, count := 0, control := r.control ||| 0x0C }
  else
    let load := (r.load >>> 1) ||| (if v.getLsbD 0 then 0x10 else 0x00)
    let count := r.count + 1
    if count = 5 then
      match (a.extractLsb' 13 2).toNat with
      | 0 => { r with control := load, load := 0, count := 0 }
      | 1 => { r with chrLo := load, load := 0, count := 0 }
      | 2 => { r with chrHi := load, load := 0, count := 0 }
      | _ => { r with prg := load, load := 0, count := 0 }
    else { r with load := load, count := count }

/-- `CartCpuWrite(a, v)` of R521, R523, R532: `none` is not claimed. PRG ROM is never written. -/
def Cartridge.cpuWrite (c : Cartridge) (a : Word) (v : Byte) : Option Cartridge :=
  match c.mapper with
  | .mapper0 => if 0x8000 ≤ a then some c else none
  | .mapper1 r =>
    if inPrgRam a then
      some { c with mapper := .mapper1 { r with prgRam := r.prgRam.write (prgRamIndex a) v } }
    else if 0x8000 ≤ a then some { c with mapper := .mapper1 (r.serialWrite a v) }
    else none

/-- `M1ChrOffset(a)` of R536. -/
def mapper1ChrOffset (r : Mapper1) (a : PpuAddr) : Nat :=
  if r.chrMode then
    if a < 0x1000 then r.chrLo.toNat * 0x1000 + (a &&& 0x0FFF).toNat
    else r.chrHi.toNat * 0x1000 + (a &&& 0x0FFF).toNat
  else (r.chrLo.extractLsb' 1 4).toNat * 0x2000 + (a &&& 0x1FFF).toNat

/-- The index into CHR ROM of `banks` 8 KiB banks that a pattern address shows (R524, R529, R533). -/
def Cartridge.chrIndex (c : Cartridge) (banks : Nat) (a : PpuAddr) : Nat :=
  (match c.mapper with
   | .mapper0 => a.toNat
   | .mapper1 r => mapper1ChrOffset r a) % (banks * 8192)

/-- `CartPpuRead(a)` of R521, R524, R533: `none` is not claimed. CHR-RAM is not banked. -/
def Cartridge.ppuRead (c : Cartridge) (a : PpuAddr) : Option Byte :=
  if 0x1FFF < a then none
  else
    match c.pattern with
    | .ram data => some (data.read a.toNat)
    | .rom banks data => some (data.read (c.chrIndex banks a))

/-- `CartPpuWrite(a, v)` of R521, R525: a write to CHR ROM is claimed and has no effect. -/
def Cartridge.ppuWrite (c : Cartridge) (a : PpuAddr) (v : Byte) : Option Cartridge :=
  if 0x1FFF < a then none
  else
    match c.pattern with
    | .ram data => some { c with pattern := .ram (data.write a.toNat v) }
    | .rom _ _ => some c

/-- The mapper's own `mirror_mode()` (R526): Mapper0 leaves it to the hint, Mapper1 takes bits 1:0 of its
control register. -/
def Mapper.mirrorMode : Mapper → Mirror
  | .mapper0 => .hardwareDetermined
  | .mapper1 r =>
    match (r.control.extractLsb' 0 2).toNat with
    | 0 => .oneScreenLow
    | 1 => .oneScreenHigh
    | 2 => .vertical
    | _ => .horizontal

/-- `MirrorMode()` of R526: HardwareDetermined means the mirroring hint. -/
def Cartridge.layout (c : Cartridge) : Layout :=
  match c.mapper.mirrorMode with
  | .horizontal => .horizontal
  | .vertical => .vertical
  | .oneScreenLow => .oneScreenLow
  | .oneScreenHigh => .oneScreenHigh
  | .hardwareDetermined =>
    match c.hint with
    | .horizontal => .horizontal
    | .vertical => .vertical

/-- `MapperIrqState()` of R527 and R563: the mapper's request line (log entry 12). -/
def Cartridge.irqPending (c : Cartridge) : Bool := c.irqState

/-- `MapperIrqClear()` of R341. -/
def Cartridge.irqClear (c : Cartridge) : Cartridge := { c with irqState := false }

/-- Mapper1's registers after reset; `prg_ram` is kept (R540). -/
def Mapper1.reset (r : Mapper1) : Mapper1 :=
  { load := 0, count := 0, control := 0x1C, chrLo := 0, chrHi := 0, prg := 0, prgRam := r.prgRam }

/-- The mapper's `reset()`: Mapper0 has nothing to reset (R528). -/
def Cartridge.reset (c : Cartridge) : Cartridge :=
  match c.mapper with
  | .mapper0 => { c with irqState := false }
  | .mapper1 r => { c with mapper := .mapper1 r.reset, irqState := false }

/-- Cartridge construction (R371, R529, U8, U9): refused for any mapper id but 0 and 1, for no PRG bank,
and for contents that do not fit their banks. `prgRam` is PRG_RAM_INIT; with no CHR bank `chr` is
CHR_RAM_INIT. -/
def Cartridge.construct (mapperId prgBanks chrBanks : Nat) (prg chr prgRam : Memory) (hint : MirrorHint) :
    Option Cartridge :=
  let size := if chrBanks = 0 then 8192 else chrBanks * 8192
  if prgBanks = 0 ∨ prg.wf (prgBanks * 16384) = false ∨ chr.wf size = false ∨ prgRam.wf 8192 = false then
    none
  else
    let pattern := if chrBanks = 0 then Pattern.ram chr else Pattern.rom chrBanks chr
    let blank : Mapper1 :=
      { load := 0, count := 0, control := 0x1C, chrLo := 0, chrHi := 0, prg := 0, prgRam := prgRam }
    match mapperId with
    | 0 => some { mapper := .mapper0, prgBanks := prgBanks, prg := prg, pattern := pattern, hint := hint,
                  irqState := false }
    | 1 => some { mapper := .mapper1 blank, prgBanks := prgBanks, prg := prg, pattern := pattern,
                  hint := hint, irqState := false }
    | _ => none

end Sys2Proof.Machine
end

