-- ==== Sys2Proof/Machine/PpuBus.lean ====
section
/-! DEFINITION. The PPU address space: pattern memory in the cartridge, nametables, palette (R110 to R117). -/

namespace Sys2Proof.Machine

/-- `ppu_mask.grayscale`, bit 0 (R384). -/
def Ppu.grayscale (p : Ppu) : Bool := p.mask.getLsbD 0

/-- `PalIndex(a)` of R112: the four mirror slots alias the cells 0x10 below. -/
def palIndex (a : PpuAddr) : Nat :=
  let i := a &&& 0x1F
  if i = 0x10 ∨ i = 0x14 ∨ i = 0x18 ∨ i = 0x1C then (i - 0x10).toNat else i.toNat

/-- `NtTable(a)` of R114: whether the address lies in table 1. The quadrant is bits 11:10. -/
def ntTable (l : Layout) (a : PpuAddr) : Bool :=
  match l with
  | .vertical => a.getLsbD 10
  | .horizontal => a.getLsbD 11
  | .oneScreenLow => false
  | .oneScreenHigh => true

/-- The byte within a nametable, `a & 0x03FF` (R114). -/
def ntIndex (a : PpuAddr) : Nat := (a &&& 0x3FF).toNat

/-- A palette byte as it is read: masked to 0x3F, or to 0x30 in grayscale (R110, R112). -/
def Ppu.palRead (p : Ppu) (a : PpuAddr) : Byte :=
  p.pal.read (palIndex a) &&& (if p.grayscale then 0x30 else 0x3F)

/-- A nametable byte (R114). -/
def Ppu.ntRead (p : Ppu) (l : Layout) (a : PpuAddr) : Byte :=
  if ntTable l a then p.nt1.read (ntIndex a) else p.nt0.read (ntIndex a)

/-- A nametable write (R114). -/
def Ppu.ntWrite (p : Ppu) (l : Layout) (a : PpuAddr) (v : Byte) : Ppu :=
  if ntTable l a then { p with nt1 := p.nt1.write (ntIndex a) v }
  else { p with nt0 := p.nt0.write (ntIndex a) v }

/-- `PpuRead(a)` of R110. The last line is R117's unclaimed read, a free value; with the two mappers every
pattern address is claimed, so no state reaches it (log entry 9). -/
def State.ppuRead (s : State) (a : PpuAddr) : Byte :=
  if 0x3F00 ≤ a then s.ppu.palRead a
  else
    match s.cart.ppuRead a with
    | some v => v
    | none =>
      if 0x2000 ≤ a then s.ppu.ntRead s.cart.layout a else Config.freeByte s.draws

/-- `PpuWrite(a, v)` of R111: the palette keeps all 8 bits. -/
def State.ppuWrite (s : State) (a : PpuAddr) (v : Byte) : State :=
  if 0x3F00 ≤ a then s.setPpu { s.ppu with pal := s.ppu.pal.write (palIndex a) v }
  else
    match s.cart.ppuWrite a v with
    | some c => s.setCart c
    | none =>
      if 0x2000 ≤ a then s.setPpu (s.ppu.ntWrite s.cart.layout a v) else s

end Sys2Proof.Machine
end

