-- ==== Sys2Proof/Machine/PpuRegisters.lean ====
section
/-! DEFINITION. The VRAM address register (R381) and the eight CPU-visible PPU registers (R382 to R391). -/

namespace Sys2Proof.Machine

/-- A byte read and the machine after the read. -/
structure Reading where
  value : Byte
  state : State
  deriving DecidableEq, Repr

/-- A fresh unspecified byte (U3; with a mask U4, U7): the next free value (log entry 6). -/
def State.drawByte (s : State) : Reading :=
  { value := Config.freeByte s.draws, state := s.setDraws (s.draws + 1) }

/-- `coarse_x`, bits 4:0 (R381). -/
def coarseX (v : BitVec 15) : BitVec 5 := v.extractLsb' 0 5
/-- `coarse_y`, bits 9:5. -/
def coarseY (v : BitVec 15) : BitVec 5 := v.extractLsb' 5 5
/-- `nt_x`, bit 10. -/
def ntX (v : BitVec 15) : Bool := v.getLsbD 10
/-- `nt_y`, bit 11. -/
def ntY (v : BitVec 15) : Bool := v.getLsbD 11
/-- `fine_y`, bits 14:12. -/
def fineY (v : BitVec 15) : BitVec 3 := v.extractLsb' 12 3

/-- `v` with `coarse_x <- x`. -/
def withCoarseX (v : BitVec 15) (x : BitVec 5) : BitVec 15 := (v &&& 0x7FE0) ||| x.setWidth 15
/-- `v` with `coarse_y <- y`. -/
def withCoarseY (v : BitVec 15) (y : BitVec 5) : BitVec 15 := (v &&& 0x7C1F) ||| (y.setWidth 15 <<< 5)
/-- `v` with `nt_x <- b`. -/
def withNtX (v : BitVec 15) (b : Bool) : BitVec 15 := (v &&& 0x7BFF) ||| (if b then 0x0400 else 0)
/-- `v` with `nt_y <- b`. -/
def withNtY (v : BitVec 15) (b : Bool) : BitVec 15 := (v &&& 0x77FF) ||| (if b then 0x0800 else 0)
/-- `v` with `fine_y <- f`. -/
def withFineY (v : BitVec 15) (f : BitVec 3) : BitVec 15 := (v &&& 0x0FFF) ||| (f.setWidth 15 <<< 12)

/-- `ppu_control.increment`, bit 2 (R383). -/
def Ppu.increment (p : Ppu) : Bool := p.control.getLsbD 2
/-- `ppu_control.bg_table`, bit 4. -/
def Ppu.bgTable (p : Ppu) : Bool := p.control.getLsbD 4
/-- `ppu_control.nmi_enable`, bit 7. -/
def Ppu.nmiEnable (p : Ppu) : Bool := p.control.getLsbD 7
/-- `ppu_mask.show_bg`, bit 3 (R384). -/
def Ppu.showBg (p : Ppu) : Bool := p.mask.getLsbD 3
/-- `ppu_mask.show_sprites`, bit 4. -/
def Ppu.showSprites (p : Ppu) : Bool := p.mask.getLsbD 4
/-- `rendering` of R398. -/
def Ppu.rendering (p : Ppu) : Bool := p.showBg || p.showSprites

/-- The address that register 7 uses, `vram & 0x3FFF` (R381). -/
def Ppu.dataAddr (p : Ppu) : PpuAddr := p.vram.setWidth 14

/-- `ControlWrite(v)` of R383, with the edge rule that requests an NMI. -/
def Ppu.controlWrite (p : Ppu) (v : Byte) : Ppu :=
  { p with
    control := v
    tram := withNtY (withNtX p.tram (v.getLsbD 0)) (v.getLsbD 1)
    nmiPending := p.nmiPending || (!p.nmiEnable && v.getLsbD 7 && p.vblank) }

/-- `OamDataWrite(v)` of R386. -/
def Ppu.oamDataWrite (p : Ppu) (v : Byte) : Ppu :=
  { p with oam := p.oam.write p.oamAddr.toNat v, oamAddr := p.oamAddr + 1 }

/-- `ScrollWrite(v)` of R387. -/
def Ppu.scrollWrite (p : Ppu) (v : Byte) : Ppu :=
  if p.addrLatch then
    { p with
      tram := withCoarseY (withFineY p.tram (v.extractLsb' 0 3)) (v.extractLsb' 3 5)
      addrLatch := false }
  else
    { p with
      fineX := v.extractLsb' 0 3
      tram := withCoarseX p.tram (v.extractLsb' 3 5)
      addrLatch := true }

/-- `AddressWrite(v)` of R388: the first write clears bit 14 of `tram`. -/
def Ppu.addressWrite (p : Ppu) (v : Byte) : Ppu :=
  if p.addrLatch then
    let t := (p.tram &&& 0x7F00) ||| v.setWidth 15
    { p with tram := t, vram := t, addrLatch := false }
  else
    { p with tram := ((v &&& 0x3F).setWidth 15 <<< 8) ||| (p.tram &&& 0x00FF), addrLatch := true }

/-- `VramIncrement()` of R391: by 1 or 32, modulo 0x8000. -/
def Ppu.vramIncrement (p : Ppu) : Ppu := { p with vram := p.vram + (if p.increment then 32 else 1) }

/-- The three named bits of a status read (R385). -/
def Ppu.statusBits (p : Ppu) : Byte := bitAt 7 p.vblank ||| bitAt 6 p.sprite0 ||| bitAt 5 p.overflow

/-- `StatusRead()` of R385: bits 4:0 are a free value (U4); VerticalBlank and the latch are cleared. -/
def State.statusRead (s : State) : Reading :=
  let low := s.drawByte
  { value := s.ppu.statusBits ||| (low.value &&& 0x1F)
    state := low.state.setPpu { s.ppu with vblank := false, addrLatch := false } }

/-- `DataRead()` of R389: delayed by one read below 0x3F00, not delayed in the palette. -/
def State.dataRead (s : State) : Reading :=
  let a := s.ppu.dataAddr
  let fresh := s.ppuRead a
  { value := if 0x3F00 ≤ a then fresh else s.ppu.dataBuffer
    state := s.setPpu { s.ppu with dataBuffer := fresh }.vramIncrement }

/-- `DataWrite(v)` of R390. -/
def State.dataWrite (s : State) (v : Byte) : State :=
  let t := s.ppuWrite s.ppu.dataAddr v
  t.setPpu t.ppu.vramIncrement

/-- `PpuWriteOnlyRead(r)` of R382: a free value with no side effect (U5), the same until the next bus write
(R91). -/
def State.writeOnlyRead (s : State) (r : Nat) : Reading :=
  { value := Config.writeOnlyByte r s.writes, state := s }

/-- `PpuRegRead(r)` of R382. -/
def State.ppuRegRead (s : State) (r : Nat) : Reading :=
  match r with
  | 2 => s.statusRead
  | 4 => { value := s.ppu.oam.read s.ppu.oamAddr.toNat, state := s }
  | 7 => s.dataRead
  | _ => s.writeOnlyRead r

/-- `PpuRegWrite(r, v)` of R382; a write to register 2 has no effect. -/
def State.ppuRegWrite (s : State) (r : Nat) (v : Byte) : State :=
  match r with
  | 0 => s.setPpu (s.ppu.controlWrite v)
  | 1 => s.setPpu { s.ppu with mask := v }
  | 3 => s.setPpu { s.ppu with oamAddr := v }
  | 4 => s.setPpu (s.ppu.oamDataWrite v)
  | 5 => s.setPpu (s.ppu.scrollWrite v)
  | 6 => s.setPpu (s.ppu.addressWrite v)
  | 7 => s.dataWrite v
  | _ => s

end Sys2Proof.Machine
end

