-- ==== Sys2Proof/Machine/Ops.lean ====
section
/-! DEFINITION. The named operations that instructions and agents are made of: bus reads and writes (R84,
R85), the stack (R25), taking an interrupt and returning from one (R566, R314), and reset (R600). -/

namespace Sys2Proof.Machine

/-- `ApuStatusRead()` of R466: bits 2, 4, 5, 6 and 7 are a free value (U7), no side effect. -/
def State.apuStatusRead (s : State) : Reading :=
  let other := s.drawByte
  { value := s.apu.statusBits ||| (other.value &&& 0xF4), state := other.state }

/-- The byte a controller port returns: bit 7 of its shift register, in position 0 (R367). -/
def ctrlBit (shift : Byte) : Byte := bitAt 0 (shift.getLsbD 7)

/-- `CtrlRead(0)` of R367. -/
def State.ctrlRead0 (s : State) : Reading :=
  { value := ctrlBit s.ctrlShift0, state := s.setCtrlShift0 (s.ctrlShift0 <<< 1) }

/-- `CtrlRead(1)` of R367. -/
def State.ctrlRead1 (s : State) : Reading :=
  { value := ctrlBit s.ctrlShift1, state := s.setCtrlShift1 (s.ctrlShift1 <<< 1) }

/-- `CtrlLatch()` of R366: both snapshots, whatever the written value. -/
def State.ctrlLatch (s : State) : State := (s.setCtrlShift0 s.controller0).setCtrlShift1 s.controller1

/-- `DmaTrigger(v)` of R350. -/
def State.dmaTrigger (s : State) (v : Byte) : State :=
  s.setDma { s.dma with page := v, index := 0, enable := true, wait := true }

/-- The index into `ram` of an address at or below 0x1FFF (R86). -/
def ramIndex (a : Word) : Nat := (a &&& 0x07FF).toNat

/-- `MemRead(addr, 1)` of R84. -/
def State.memRead (s : State) (a : Word) : Reading :=
  match s.cart.cpuRead a with
  | some v => { value := v, state := s }
  | none =>
    if a ≤ 0x1FFF then { value := s.ram.read (ramIndex a), state := s }
    else if a ≤ 0x3FFF then s.ppuRegRead (a &&& 7).toNat
    else if a = 0x4015 then s.apuStatusRead
    else if a ≤ 0x4013 then s.drawByte
    else if a = 0x4016 then s.ctrlRead0
    else if a = 0x4017 then s.ctrlRead1
    else { value := s.openBus, state := s }

/-- The part of a write that follows the update of the open-bus latch (R85). -/
def State.decodeWrite (s : State) (a : Word) (v : Byte) : State :=
  match s.cart.cpuWrite a v with
  | some c => s.setCart c
  | none =>
    if a ≤ 0x1FFF then s.setRam (s.ram.write (ramIndex a) v)
    else if a ≤ 0x3FFF then s.ppuRegWrite (a &&& 7).toNat v
    else if a = 0x4015 then s.setApu (s.apu.controlWrite v)
    else if a ≤ 0x4013 ∨ a = 0x4017 then s.setApu (s.apu.regWrite a v)
    else if a = 0x4014 then s.dmaTrigger v
    else if a = 0x4016 then s.ctrlLatch
    else s

/-- `MemWrite(addr, 1, v)` of R85: `open_bus` first, claimed or not (R90). -/
def State.memWrite (s : State) (a : Word) (v : Byte) : State := (s.noteWrite v).decodeWrite a v

/-- A 16-bit quantity read and the machine after the reads. -/
structure WordReading where
  value : Word
  state : State
  deriving DecidableEq, Repr

/-- Two bytes read, the low byte first, from the two given addresses. -/
def State.readPair (s : State) (lowAddr highAddr : Word) : WordReading :=
  let lo := s.memRead lowAddr
  let hi := lo.state.memRead highAddr
  { value := wordOf lo.value hi.value, state := hi.state }

/-- `Read16(addr)` of R92: little-endian, wrapping at 0xFFFF. -/
def State.read16 (s : State) (a : Word) : WordReading := s.readPair a (a + 1)

/-- The address of the stack byte that `S` names, `0x0100 + S` (R23, R25). -/
def stackAddr (s : Byte) : Word := 0x0100 + zext16 s

/-- `Push(v)` of R25: write, then decrement. -/
def State.push (s : State) (v : Byte) : State :=
  let t := s.memWrite (stackAddr s.cpu.s) v
  t.setS (t.cpu.s - 1)

/-- `Pull()` of R25: increment, then read. -/
def State.pull (s : State) : Reading :=
  let t := s.setS (s.cpu.s + 1)
  t.memRead (stackAddr t.cpu.s)

/-- `PC` pushed, high byte first (R290, R566). -/
def State.pushWord (s : State) (w : Word) : State := (s.push (highByte w)).push (lowByte w)

/-- The frame of BRK and of an interrupt: `PC`, then the status image with bit 4 as given (R313, R566). -/
def State.pushFrame (s : State) (brk : Bool) : State :=
  let t := s.pushWord s.cpu.pc
  t.push (pushedP t.cpu.p brk)

/-- `PC <- Read16(vector)` (R566, R313, R600). -/
def State.loadVector (s : State) (vector : Word) : State :=
  let r := s.read16 vector
  r.state.setPc r.value

/-- `EnterInterrupt(vector, cost)` of R566: the frame with bit 4 clear, Break cleared, Interrupt-disable
set, `PC` from the vector, `cyc` overwritten (R569). -/
def State.enterInterrupt (s : State) (vector : Word) (cost : Nat) : State :=
  ((((s.pushFrame false).setFlag .b false).setFlag .i true).loadVector vector).setCyc cost

/-- `RaiseNmi()` of R567. -/
def State.raiseNmi (s : State) : State := s.enterInterrupt 0xFFFA 8

/-- `RaiseIrq()` of R568: nothing happens while `P.I` is 1. -/
def State.raiseIrq (s : State) : State := if s.flag .i then s else s.enterInterrupt 0xFFFE 7

/-- BRK's entry, R313, once the signature byte is skipped: the frame with bit 4 set, then `P.I`, then `PC`. -/
def State.enterBreak (s : State) : State := ((s.pushFrame true).setFlag .i true).loadVector 0xFFFE

/-- A word pulled, low byte first (R291, R314). -/
def State.pullWord (s : State) : WordReading :=
  let lo := s.pull
  let hi := lo.state.pull
  { value := wordOf lo.value hi.value, state := hi.state }

/-- The return of R314 and R575: `P` (bits 4 and 5 of the pulled byte ignored), then `PC`. -/
def State.returnFromInterrupt (s : State) : State :=
  let status := s.pull
  let target := (status.state.setP (loadedP status.value)).pullWord
  target.state.setPc target.value

/-- Step 5 of R160: `cyc <- base + (crossed & extra) + br` (R162). -/
def State.charge (s : State) (base : Nat) (crossed extra : Bool) (br : Nat) : State :=
  s.setCyc (base + (crossed && extra).toNat + br)

/-- `cyc <- cyc - 1`, the last line of R160 (R167). -/
def State.countDown (s : State) : State := s.setCyc (s.cpu.cyc - 1)

/-- The CPU registers that reset loads (R600). -/
def State.resetRegisters (s : State) : State :=
  ((((s.setA s.params.resetA).setX s.params.resetX).setY s.params.resetY).setS s.params.resetS).setP
    (loadedP s.params.resetP)

/-- `Reset()` of R600, a host action between ticks: the mapper first, then the CPU, the bus, the PPU and the
APU; every memory, the open-bus latch and the controller snapshots stay. -/
def hostReset (s : State) : State :=
  let t := ((s.setCart s.cart.reset).resetRegisters.loadVector 0xFFFC).setCyc 8
  let t := (((t.setClock 0).setDma Dma.reset).setCtrlShift0 0).setCtrlShift1 0
  (t.setPpu (Ppu.reset t.ppu.nt0 t.ppu.nt1 t.ppu.pal t.ppu.oam t.ppu.frame)).setApu Apu.reset

end Sys2Proof.Machine
end

