-- ==== Sys2Proof/Machine/Operands.lean ====
section
/-! DEFINITION. The addressing modes (R170 to R181) and the operand fetch (R164). The operand bytes `b` and
`w` come from the fetched instruction, so `PC` already is the address of the next instruction (R24, R160). -/

namespace Sys2Proof.Machine

/-- What an addressing mode returns (R160): the effective address, the page-cross flag, and the machine
after the mode's pointer reads. -/
structure Located where
  ea : Word
  crossed : Bool
  state : State
  deriving DecidableEq, Repr

/-- An operand fetched: its value, the mode's page-cross flag, and the machine after the read. -/
structure Fetched where
  value : Byte
  crossed : Bool
  state : State
  deriving DecidableEq, Repr

/-- ZP0, R172. -/
def zp0 (s : State) (b : Byte) : Located := { ea := zext16 b, crossed := false, state := s }

/-- ZPX, R173: the sum wraps inside the zero page. -/
def zpx (s : State) (b : Byte) : Located := { ea := zext16 (b + s.cpu.x), crossed := false, state := s }

/-- ZPY, R174. -/
def zpy (s : State) (b : Byte) : Located := { ea := zext16 (b + s.cpu.y), crossed := false, state := s }

/-- REL, R175: the branch target. -/
def relTarget (s : State) (b : Byte) : Word := s.cpu.pc + sext16 b

/-- ABS, R176. -/
def absolute (s : State) (w : Word) : Located := { ea := w, crossed := false, state := s }

/-- A base address plus an index register; the flag says that the high byte changed (R177, R178, R181). -/
def indexed (s : State) (base : Word) (index : Byte) : Located :=
  let ea := base + zext16 index
  { ea := ea, crossed := highByte ea != highByte base, state := s }

/-- ABX, R177. -/
def abx (s : State) (w : Word) : Located := indexed s w s.cpu.x

/-- ABY, R178. -/
def aby (s : State) (w : Word) : Located := indexed s w s.cpu.y

/-- The address of the high pointer byte of IND: the page does not change when the low byte is 0xFF (R179). -/
def indirectHigh (ptr : Word) : Word := if lowByte ptr = 0xFF then ptr &&& 0xFF00 else ptr + 1

/-- IND, R179. -/
def indirect (s : State) (ptr : Word) : WordReading := s.readPair ptr (indirectHigh ptr)

/-- A pointer in the zero page, both bytes from page 0 (R180, R181). -/
def zeroPagePointer (s : State) (b : Byte) : WordReading := s.readPair (zext16 b) (zext16 (b + 1))

/-- IZX, R180. -/
def izx (s : State) (b : Byte) : Located :=
  let p := zeroPagePointer s (b + s.cpu.x)
  { ea := p.value, crossed := false, state := p.state }

/-- IZY, R181. -/
def izy (s : State) (b : Byte) : Located :=
  let p := zeroPagePointer s b
  indexed p.state p.value p.state.cpu.y

/-- `Fetch(IMM, ea)`, R171: the operand byte itself. -/
def fetchImm (s : State) (b : Byte) : Fetched := { value := b, crossed := false, state := s }

/-- `Fetch(mode, ea)` of R164 for every mode with an effective address: one bus read. -/
def Located.fetch (l : Located) : Fetched :=
  let r := l.state.memRead l.ea
  { value := r.value, crossed := l.crossed, state := r.state }

end Sys2Proof.Machine
end

