-- ==== Sys2Proof/Machine/Arithmetic.lean ====
section
/-! DEFINITION. Arithmetic, logic, compare, increment and decrement instructions (42_arithmetic_logic.md). -/

namespace Sys2Proof.Machine

/-- ADC, R231: flags from the old accumulator, then `A`. -/
def opAdc (f : Fetched) (base : Nat) : Outcome :=
  let r := addWithCarry f.state.cpu.a f.value (f.state.flag .c)
  .next (((f.state.setSumFlags r).setA r.value).charge base f.crossed true 0)

/-- SBC, R232. -/
def opSbc (f : Fetched) (base : Nat) : Outcome :=
  let r := subWithBorrow f.state.cpu.a f.value (f.state.flag .c)
  .next (((f.state.setSumFlags r).setA r.value).charge base f.crossed true 0)

/-- AND, R233. -/
def opAnd (f : Fetched) (base : Nat) : Outcome :=
  let r := f.state.cpu.a &&& f.value
  .next (((f.state.setA r).setZN r).charge base f.crossed true 0)

/-- ORA, R234. -/
def opOra (f : Fetched) (base : Nat) : Outcome :=
  let r := f.state.cpu.a ||| f.value
  .next (((f.state.setA r).setZN r).charge base f.crossed true 0)

/-- EOR, R235. -/
def opEor (f : Fetched) (base : Nat) : Outcome :=
  let r := f.state.cpu.a ^^^ f.value
  .next (((f.state.setA r).setZN r).charge base f.crossed true 0)

/-- BIT, R236. -/
def opBit (f : Fetched) (base : Nat) : Outcome :=
  .next ((f.state.setBitTestFlags f.value).charge base f.crossed false 0)

/-- CMP, R237. -/
def opCmp (f : Fetched) (base : Nat) : Outcome :=
  .next ((f.state.setCompareFlags f.state.cpu.a f.value).charge base f.crossed true 0)

/-- CPX, R238. -/
def opCpx (f : Fetched) (base : Nat) : Outcome :=
  .next ((f.state.setCompareFlags f.state.cpu.x f.value).charge base f.crossed false 0)

/-- CPY, R239. -/
def opCpy (f : Fetched) (base : Nat) : Outcome :=
  .next ((f.state.setCompareFlags f.state.cpu.y f.value).charge base f.crossed false 0)

/-- INC, R240: one read and one write of the address. -/
def opInc (l : Located) (base : Nat) : Outcome :=
  let f := l.fetch
  .next (((f.state.memWrite l.ea (f.value + 1)).setZN (f.value + 1)).charge base l.crossed false 0)

/-- DEC, R241. -/
def opDec (l : Located) (base : Nat) : Outcome :=
  let f := l.fetch
  .next (((f.state.memWrite l.ea (f.value - 1)).setZN (f.value - 1)).charge base l.crossed false 0)

/-- `ADC #nn`, R231, R171. -/
def execAdcImm (b : Byte) (s : State) : Outcome :=
  opAdc (fetchImm s b) 2

/-- `ADC nn`, R231, R172. -/
def execAdcZp0 (b : Byte) (s : State) : Outcome :=
  opAdc (zp0 s b).fetch 3

/-- `ADC nn,X`, R231, R173. -/
def execAdcZpx (b : Byte) (s : State) : Outcome :=
  opAdc (zpx s b).fetch 4

/-- `ADC nnnn`, R231, R176. -/
def execAdcAbs (w : Word) (s : State) : Outcome :=
  opAdc (absolute s w).fetch 4

/-- `ADC nnnn,X`, R231, R177. -/
def execAdcAbx (w : Word) (s : State) : Outcome :=
  opAdc (abx s w).fetch 4

/-- `ADC nnnn,Y`, R231, R178. -/
def execAdcAby (w : Word) (s : State) : Outcome :=
  opAdc (aby s w).fetch 4

/-- `ADC (nn,X)`, R231, R180. -/
def execAdcIzx (b : Byte) (s : State) : Outcome :=
  opAdc (izx s b).fetch 6

/-- `ADC (nn),Y`, R231, R181. -/
def execAdcIzy (b : Byte) (s : State) : Outcome :=
  opAdc (izy s b).fetch 5

/-- `SBC #nn`, R232, R171. -/
def execSbcImm (b : Byte) (s : State) : Outcome :=
  opSbc (fetchImm s b) 2

/-- `SBC nn`, R232, R172. -/
def execSbcZp0 (b : Byte) (s : State) : Outcome :=
  opSbc (zp0 s b).fetch 3

/-- `SBC nn,X`, R232, R173. -/
def execSbcZpx (b : Byte) (s : State) : Outcome :=
  opSbc (zpx s b).fetch 4

/-- `SBC nnnn`, R232, R176. -/
def execSbcAbs (w : Word) (s : State) : Outcome :=
  opSbc (absolute s w).fetch 4

/-- `SBC nnnn,X`, R232, R177. -/
def execSbcAbx (w : Word) (s : State) : Outcome :=
  opSbc (abx s w).fetch 4

/-- `SBC nnnn,Y`, R232, R178. -/
def execSbcAby (w : Word) (s : State) : Outcome :=
  opSbc (aby s w).fetch 4

/-- `SBC (nn,X)`, R232, R180. -/
def execSbcIzx (b : Byte) (s : State) : Outcome :=
  opSbc (izx s b).fetch 6

/-- `SBC (nn),Y`, R232, R181. -/
def execSbcIzy (b : Byte) (s : State) : Outcome :=
  opSbc (izy s b).fetch 5

/-- `AND #nn`, R233, R171. -/
def execAndImm (b : Byte) (s : State) : Outcome :=
  opAnd (fetchImm s b) 2

/-- `AND nn`, R233, R172. -/
def execAndZp0 (b : Byte) (s : State) : Outcome :=
  opAnd (zp0 s b).fetch 3

/-- `AND nn,X`, R233, R173. -/
def execAndZpx (b : Byte) (s : State) : Outcome :=
  opAnd (zpx s b).fetch 4

/-- `AND nnnn`, R233, R176. -/
def execAndAbs (w : Word) (s : State) : Outcome :=
  opAnd (absolute s w).fetch 4

/-- `AND nnnn,X`, R233, R177. -/
def execAndAbx (w : Word) (s : State) : Outcome :=
  opAnd (abx s w).fetch 4

/-- `AND nnnn,Y`, R233, R178. -/
def execAndAby (w : Word) (s : State) : Outcome :=
  opAnd (aby s w).fetch 4

/-- `AND (nn,X)`, R233, R180. -/
def execAndIzx (b : Byte) (s : State) : Outcome :=
  opAnd (izx s b).fetch 6

/-- `AND (nn),Y`, R233, R181. -/
def execAndIzy (b : Byte) (s : State) : Outcome :=
  opAnd (izy s b).fetch 5

/-- `ORA #nn`, R234, R171. -/
def execOraImm (b : Byte) (s : State) : Outcome :=
  opOra (fetchImm s b) 2

/-- `ORA nn`, R234, R172. -/
def execOraZp0 (b : Byte) (s : State) : Outcome :=
  opOra (zp0 s b).fetch 3

/-- `ORA nn,X`, R234, R173. -/
def execOraZpx (b : Byte) (s : State) : Outcome :=
  opOra (zpx s b).fetch 4

/-- `ORA nnnn`, R234, R176. -/
def execOraAbs (w : Word) (s : State) : Outcome :=
  opOra (absolute s w).fetch 4

/-- `ORA nnnn,X`, R234, R177. -/
def execOraAbx (w : Word) (s : State) : Outcome :=
  opOra (abx s w).fetch 4

/-- `ORA nnnn,Y`, R234, R178. -/
def execOraAby (w : Word) (s : State) : Outcome :=
  opOra (aby s w).fetch 4

/-- `ORA (nn,X)`, R234, R180. -/
def execOraIzx (b : Byte) (s : State) : Outcome :=
  opOra (izx s b).fetch 6

/-- `ORA (nn),Y`, R234, R181. -/
def execOraIzy (b : Byte) (s : State) : Outcome :=
  opOra (izy s b).fetch 5

/-- `EOR #nn`, R235, R171. -/
def execEorImm (b : Byte) (s : State) : Outcome :=
  opEor (fetchImm s b) 2

/-- `EOR nn`, R235, R172. -/
def execEorZp0 (b : Byte) (s : State) : Outcome :=
  opEor (zp0 s b).fetch 3

/-- `EOR nn,X`, R235, R173. -/
def execEorZpx (b : Byte) (s : State) : Outcome :=
  opEor (zpx s b).fetch 4

/-- `EOR nnnn`, R235, R176. -/
def execEorAbs (w : Word) (s : State) : Outcome :=
  opEor (absolute s w).fetch 4

/-- `EOR nnnn,X`, R235, R177. -/
def execEorAbx (w : Word) (s : State) : Outcome :=
  opEor (abx s w).fetch 4

/-- `EOR nnnn,Y`, R235, R178. -/
def execEorAby (w : Word) (s : State) : Outcome :=
  opEor (aby s w).fetch 4

/-- `EOR (nn,X)`, R235, R180. -/
def execEorIzx (b : Byte) (s : State) : Outcome :=
  opEor (izx s b).fetch 6

/-- `EOR (nn),Y`, R235, R181. -/
def execEorIzy (b : Byte) (s : State) : Outcome :=
  opEor (izy s b).fetch 5

/-- `BIT nn`, R236, R172. -/
def execBitZp0 (b : Byte) (s : State) : Outcome :=
  opBit (zp0 s b).fetch 3

/-- `BIT nnnn`, R236, R176. -/
def execBitAbs (w : Word) (s : State) : Outcome :=
  opBit (absolute s w).fetch 4

/-- `CMP #nn`, R237, R171. -/
def execCmpImm (b : Byte) (s : State) : Outcome :=
  opCmp (fetchImm s b) 2

/-- `CMP nn`, R237, R172. -/
def execCmpZp0 (b : Byte) (s : State) : Outcome :=
  opCmp (zp0 s b).fetch 3

/-- `CMP nn,X`, R237, R173. -/
def execCmpZpx (b : Byte) (s : State) : Outcome :=
  opCmp (zpx s b).fetch 4

/-- `CMP nnnn`, R237, R176. -/
def execCmpAbs (w : Word) (s : State) : Outcome :=
  opCmp (absolute s w).fetch 4

/-- `CMP nnnn,X`, R237, R177. -/
def execCmpAbx (w : Word) (s : State) : Outcome :=
  opCmp (abx s w).fetch 4

/-- `CMP nnnn,Y`, R237, R178. -/
def execCmpAby (w : Word) (s : State) : Outcome :=
  opCmp (aby s w).fetch 4

/-- `CMP (nn,X)`, R237, R180. -/
def execCmpIzx (b : Byte) (s : State) : Outcome :=
  opCmp (izx s b).fetch 6

/-- `CMP (nn),Y`, R237, R181. -/
def execCmpIzy (b : Byte) (s : State) : Outcome :=
  opCmp (izy s b).fetch 5

/-- `CPX #nn`, R238, R171. -/
def execCpxImm (b : Byte) (s : State) : Outcome :=
  opCpx (fetchImm s b) 2

/-- `CPX nn`, R238, R172. -/
def execCpxZp0 (b : Byte) (s : State) : Outcome :=
  opCpx (zp0 s b).fetch 3

/-- `CPX nnnn`, R238, R176. -/
def execCpxAbs (w : Word) (s : State) : Outcome :=
  opCpx (absolute s w).fetch 4

/-- `CPY #nn`, R239, R171. -/
def execCpyImm (b : Byte) (s : State) : Outcome :=
  opCpy (fetchImm s b) 2

/-- `CPY nn`, R239, R172. -/
def execCpyZp0 (b : Byte) (s : State) : Outcome :=
  opCpy (zp0 s b).fetch 3

/-- `CPY nnnn`, R239, R176. -/
def execCpyAbs (w : Word) (s : State) : Outcome :=
  opCpy (absolute s w).fetch 4

/-- `INC nn`, R240, R172. -/
def execIncZp0 (b : Byte) (s : State) : Outcome :=
  opInc (zp0 s b) 5

/-- `INC nn,X`, R240, R173. -/
def execIncZpx (b : Byte) (s : State) : Outcome :=
  opInc (zpx s b) 6

/-- `INC nnnn`, R240, R176. -/
def execIncAbs (w : Word) (s : State) : Outcome :=
  opInc (absolute s w) 6

/-- `INC nnnn,X`, R240, R177. -/
def execIncAbx (w : Word) (s : State) : Outcome :=
  opInc (abx s w) 7

/-- `DEC nn`, R241, R172. -/
def execDecZp0 (b : Byte) (s : State) : Outcome :=
  opDec (zp0 s b) 5

/-- `DEC nn,X`, R241, R173. -/
def execDecZpx (b : Byte) (s : State) : Outcome :=
  opDec (zpx s b) 6

/-- `DEC nnnn`, R241, R176. -/
def execDecAbs (w : Word) (s : State) : Outcome :=
  opDec (absolute s w) 6

/-- `DEC nnnn,X`, R241, R177. -/
def execDecAbx (w : Word) (s : State) : Outcome :=
  opDec (abx s w) 7

/-- `INX`, R242, R170. -/
def execInx (s : State) : Outcome :=
  .next (((s.setX (s.cpu.x + 1)).setZN (s.cpu.x + 1)).charge 2 false false 0)

/-- `INY`, R243, R170. -/
def execIny (s : State) : Outcome :=
  .next (((s.setY (s.cpu.y + 1)).setZN (s.cpu.y + 1)).charge 2 false false 0)

/-- `DEX`, R244, R170. -/
def execDex (s : State) : Outcome :=
  .next (((s.setX (s.cpu.x - 1)).setZN (s.cpu.x - 1)).charge 2 false false 0)

/-- `DEY`, R245, R170. -/
def execDey (s : State) : Outcome :=
  .next (((s.setY (s.cpu.y - 1)).setZN (s.cpu.y - 1)).charge 2 false false 0)

end Sys2Proof.Machine
end

