-- ==== Sys2Proof/Machine/Branch.lean ====
section
/-! DEFINITION. Branch, jump, call and return instructions (44_branch_jump.md). -/

namespace Sys2Proof.Machine

/-- `Branch(cond, ea)` of R280: one more cycle when taken, one more when the target lies on another page
than the next instruction. -/
def branch (cond : Bool) (b : Byte) (s : State) (base : Nat) : Outcome :=
  let ea := relTarget s b
  if cond then
    .next ((s.setPc ea).charge base false false (if highByte ea ≠ highByte s.cpu.pc then 2 else 1))
  else .next (s.charge base false false 0)

/-- JMP, R289: `PC <- ea`, no read at `ea`. -/
def jump (s : State) (ea : Word) (base : Nat) : Outcome := .next ((s.setPc ea).charge base false false 0)

/-- JSR, R290: the address of the call's last byte pushed, then the jump. -/
def call (s : State) (ea : Word) (base : Nat) : Outcome :=
  .next (((s.pushWord (s.cpu.pc - 1)).setPc ea).charge base false false 0)

/-- `BCC rel`, R281, R175. -/
def execBcc (b : Byte) (s : State) : Outcome :=
  branch (!s.flag .c) b s 2

/-- `BCS rel`, R282, R175. -/
def execBcs (b : Byte) (s : State) : Outcome :=
  branch (s.flag .c) b s 2

/-- `BEQ rel`, R283, R175. -/
def execBeq (b : Byte) (s : State) : Outcome :=
  branch (s.flag .z) b s 2

/-- `BNE rel`, R284, R175. -/
def execBne (b : Byte) (s : State) : Outcome :=
  branch (!s.flag .z) b s 2

/-- `BPL rel`, R285, R175. -/
def execBpl (b : Byte) (s : State) : Outcome :=
  branch (!s.flag .n) b s 2

/-- `BMI rel`, R286, R175. -/
def execBmi (b : Byte) (s : State) : Outcome :=
  branch (s.flag .n) b s 2

/-- `BVC rel`, R287, R175. -/
def execBvc (b : Byte) (s : State) : Outcome :=
  branch (!s.flag .v) b s 2

/-- `BVS rel`, R288, R175. -/
def execBvs (b : Byte) (s : State) : Outcome :=
  branch (s.flag .v) b s 2

/-- `JMP nnnn`, R289, R176. -/
def execJmpAbs (w : Word) (s : State) : Outcome :=
  jump s w 3

/-- `JMP (nnnn)`, R289, R179. -/
def execJmpInd (w : Word) (s : State) : Outcome :=
  jump (indirect s w).state (indirect s w).value 5

/-- `JSR nnnn`, R290, R176. -/
def execJsr (w : Word) (s : State) : Outcome :=
  call s w 6

/-- `RTS`, R291, R170. -/
def execRts (s : State) : Outcome :=
  let r := s.pullWord
  .next ((r.state.setPc (r.value + 1)).charge 6 false false 0)

end Sys2Proof.Machine
end

