-- ==== Sys2Proof/Machine/LoadStore.lean ====
section
/-! DEFINITION. Load, store and transfer instructions (41_load_store_transfer.md). Each opcode row is one
definition: semantic operation, addressing mode, base cycles (R135, R160). -/

namespace Sys2Proof.Machine

/-- LDA, R201: `A <- m; SetZN(A)`, extra flag 1. -/
def opLda (f : Fetched) (base : Nat) : Outcome :=
  .next (((f.state.setA f.value).setZN f.value).charge base f.crossed true 0)

/-- LDX, R202. -/
def opLdx (f : Fetched) (base : Nat) : Outcome :=
  .next (((f.state.setX f.value).setZN f.value).charge base f.crossed true 0)

/-- LDY, R203. -/
def opLdy (f : Fetched) (base : Nat) : Outcome :=
  .next (((f.state.setY f.value).setZN f.value).charge base f.crossed true 0)

/-- STA, R204: `MemWrite(ea, 1, A)`, no fetch, no flags, no page-cross cycle. -/
def opSta (l : Located) (base : Nat) : Outcome :=
  .next ((l.state.memWrite l.ea l.state.cpu.a).charge base l.crossed false 0)

/-- STX, R205. -/
def opStx (l : Located) (base : Nat) : Outcome :=
  .next ((l.state.memWrite l.ea l.state.cpu.x).charge base l.crossed false 0)

/-- STY, R206. -/
def opSty (l : Located) (base : Nat) : Outcome :=
  .next ((l.state.memWrite l.ea l.state.cpu.y).charge base l.crossed false 0)

/-- `LDA #nn`, R201, R171. -/
def execLdaImm (b : Byte) (s : State) : Outcome :=
  opLda (fetchImm s b) 2

/-- `LDA nn`, R201, R172. -/
def execLdaZp0 (b : Byte) (s : State) : Outcome :=
  opLda (zp0 s b).fetch 3

/-- `LDA nn,X`, R201, R173. -/
def execLdaZpx (b : Byte) (s : State) : Outcome :=
  opLda (zpx s b).fetch 4

/-- `LDA nnnn`, R201, R176. -/
def execLdaAbs (w : Word) (s : State) : Outcome :=
  opLda (absolute s w).fetch 4

/-- `LDA nnnn,X`, R201, R177. -/
def execLdaAbx (w : Word) (s : State) : Outcome :=
  opLda (abx s w).fetch 4

/-- `LDA nnnn,Y`, R201, R178. -/
def execLdaAby (w : Word) (s : State) : Outcome :=
  opLda (aby s w).fetch 4

/-- `LDA (nn,X)`, R201, R180. -/
def execLdaIzx (b : Byte) (s : State) : Outcome :=
  opLda (izx s b).fetch 6

/-- `LDA (nn),Y`, R201, R181. -/
def execLdaIzy (b : Byte) (s : State) : Outcome :=
  opLda (izy s b).fetch 5

/-- `LDX #nn`, R202, R171. -/
def execLdxImm (b : Byte) (s : State) : Outcome :=
  opLdx (fetchImm s b) 2

/-- `LDX nn`, R202, R172. -/
def execLdxZp0 (b : Byte) (s : State) : Outcome :=
  opLdx (zp0 s b).fetch 3

/-- `LDX nn,Y`, R202, R174. -/
def execLdxZpy (b : Byte) (s : State) : Outcome :=
  opLdx (zpy s b).fetch 4

/-- `LDX nnnn`, R202, R176. -/
def execLdxAbs (w : Word) (s : State) : Outcome :=
  opLdx (absolute s w).fetch 4

/-- `LDX nnnn,Y`, R202, R178. -/
def execLdxAby (w : Word) (s : State) : Outcome :=
  opLdx (aby s w).fetch 4

/-- `LDY #nn`, R203, R171. -/
def execLdyImm (b : Byte) (s : State) : Outcome :=
  opLdy (fetchImm s b) 2

/-- `LDY nn`, R203, R172. -/
def execLdyZp0 (b : Byte) (s : State) : Outcome :=
  opLdy (zp0 s b).fetch 3

/-- `LDY nn,X`, R203, R173. -/
def execLdyZpx (b : Byte) (s : State) : Outcome :=
  opLdy (zpx s b).fetch 4

/-- `LDY nnnn`, R203, R176. -/
def execLdyAbs (w : Word) (s : State) : Outcome :=
  opLdy (absolute s w).fetch 4

/-- `LDY nnnn,X`, R203, R177. -/
def execLdyAbx (w : Word) (s : State) : Outcome :=
  opLdy (abx s w).fetch 4

/-- `STA nn`, R204, R172. -/
def execStaZp0 (b : Byte) (s : State) : Outcome :=
  opSta (zp0 s b) 3

/-- `STA nn,X`, R204, R173. -/
def execStaZpx (b : Byte) (s : State) : Outcome :=
  opSta (zpx s b) 4

/-- `STA nnnn`, R204, R176. -/
def execStaAbs (w : Word) (s : State) : Outcome :=
  opSta (absolute s w) 4

/-- `STA nnnn,X`, R204, R177. -/
def execStaAbx (w : Word) (s : State) : Outcome :=
  opSta (abx s w) 5

/-- `STA nnnn,Y`, R204, R178. -/
def execStaAby (w : Word) (s : State) : Outcome :=
  opSta (aby s w) 5

/-- `STA (nn,X)`, R204, R180. -/
def execStaIzx (b : Byte) (s : State) : Outcome :=
  opSta (izx s b) 6

/-- `STA (nn),Y`, R204, R181. -/
def execStaIzy (b : Byte) (s : State) : Outcome :=
  opSta (izy s b) 6

/-- `STX nn`, R205, R172. -/
def execStxZp0 (b : Byte) (s : State) : Outcome :=
  opStx (zp0 s b) 3

/-- `STX nn,Y`, R205, R174. -/
def execStxZpy (b : Byte) (s : State) : Outcome :=
  opStx (zpy s b) 4

/-- `STX nnnn`, R205, R176. -/
def execStxAbs (w : Word) (s : State) : Outcome :=
  opStx (absolute s w) 4

/-- `STY nn`, R206, R172. -/
def execStyZp0 (b : Byte) (s : State) : Outcome :=
  opSty (zp0 s b) 3

/-- `STY nn,X`, R206, R173. -/
def execStyZpx (b : Byte) (s : State) : Outcome :=
  opSty (zpx s b) 4

/-- `STY nnnn`, R206, R176. -/
def execStyAbs (w : Word) (s : State) : Outcome :=
  opSty (absolute s w) 4

/-- `TAX`, R207, R170. -/
def execTax (s : State) : Outcome :=
  .next (((s.setX s.cpu.a).setZN s.cpu.a).charge 2 false false 0)

/-- `TAY`, R208, R170. -/
def execTay (s : State) : Outcome :=
  .next (((s.setY s.cpu.a).setZN s.cpu.a).charge 2 false false 0)

/-- `TXA`, R209, R170. -/
def execTxa (s : State) : Outcome :=
  .next (((s.setA s.cpu.x).setZN s.cpu.x).charge 2 false false 0)

/-- `TYA`, R210, R170. -/
def execTya (s : State) : Outcome :=
  .next (((s.setA s.cpu.y).setZN s.cpu.y).charge 2 false false 0)

/-- `TSX`, R211, R170. -/
def execTsx (s : State) : Outcome :=
  .next (((s.setX s.cpu.s).setZN s.cpu.s).charge 2 false false 0)

/-- `TXS`, R212, R170. -/
def execTxs (s : State) : Outcome :=
  .next ((s.setS s.cpu.x).charge 2 false false 0)

end Sys2Proof.Machine
end

