-- ==== Sys2Proof/Machine/Shift.lean ====
section
/-! DEFINITION. Shift and rotate instructions (43_shift_rotate.md). -/

namespace Sys2Proof.Machine

/-- The accumulator form of a shift or rotate (R270: the mode is IMP). -/
def shiftAccumulator (shift : Byte → Bool → Shifted) (s : State) (base : Nat) : Outcome :=
  let r := shift s.cpu.a (s.flag .c)
  .next (((s.setShiftFlags r).setA r.value).charge base false false 0)

/-- The memory forms (R270): one read and one write of the address, no page-cross cycle. -/
def shiftMemory (shift : Byte → Bool → Shifted) (l : Located) (base : Nat) : Outcome :=
  let f := l.fetch
  let r := shift f.value (f.state.flag .c)
  .next (((f.state.setShiftFlags r).memWrite l.ea r.value).charge base l.crossed false 0)

/-- `ASL A`, R271, R170. -/
def execAslImp (s : State) : Outcome :=
  shiftAccumulator shiftLeft s 2

/-- `ASL nn`, R271, R172. -/
def execAslZp0 (b : Byte) (s : State) : Outcome :=
  shiftMemory shiftLeft (zp0 s b) 5

/-- `ASL nn,X`, R271, R173. -/
def execAslZpx (b : Byte) (s : State) : Outcome :=
  shiftMemory shiftLeft (zpx s b) 6

/-- `ASL nnnn`, R271, R176. -/
def execAslAbs (w : Word) (s : State) : Outcome :=
  shiftMemory shiftLeft (absolute s w) 6

/-- `ASL nnnn,X`, R271, R177. -/
def execAslAbx (w : Word) (s : State) : Outcome :=
  shiftMemory shiftLeft (abx s w) 7

/-- `LSR A`, R272, R170. -/
def execLsrImp (s : State) : Outcome :=
  shiftAccumulator shiftRight s 2

/-- `LSR nn`, R272, R172. -/
def execLsrZp0 (b : Byte) (s : State) : Outcome :=
  shiftMemory shiftRight (zp0 s b) 5

/-- `LSR nn,X`, R272, R173. -/
def execLsrZpx (b : Byte) (s : State) : Outcome :=
  shiftMemory shiftRight (zpx s b) 6

/-- `LSR nnnn`, R272, R176. -/
def execLsrAbs (w : Word) (s : State) : Outcome :=
  shiftMemory shiftRight (absolute s w) 6

/-- `LSR nnnn,X`, R272, R177. -/
def execLsrAbx (w : Word) (s : State) : Outcome :=
  shiftMemory shiftRight (abx s w) 7

/-- `ROL A`, R273, R170. -/
def execRolImp (s : State) : Outcome :=
  shiftAccumulator rotateLeft s 2

/-- `ROL nn`, R273, R172. -/
def execRolZp0 (b : Byte) (s : State) : Outcome :=
  shiftMemory rotateLeft (zp0 s b) 5

/-- `ROL nn,X`, R273, R173. -/
def execRolZpx (b : Byte) (s : State) : Outcome :=
  shiftMemory rotateLeft (zpx s b) 6

/-- `ROL nnnn`, R273, R176. -/
def execRolAbs (w : Word) (s : State) : Outcome :=
  shiftMemory rotateLeft (absolute s w) 6

/-- `ROL nnnn,X`, R273, R177. -/
def execRolAbx (w : Word) (s : State) : Outcome :=
  shiftMemory rotateLeft (abx s w) 7

/-- `ROR A`, R274, R170. -/
def execRorImp (s : State) : Outcome :=
  shiftAccumulator rotateRight s 2

/-- `ROR nn`, R274, R172. -/
def execRorZp0 (b : Byte) (s : State) : Outcome :=
  shiftMemory rotateRight (zp0 s b) 5

/-- `ROR nn,X`, R274, R173. -/
def execRorZpx (b : Byte) (s : State) : Outcome :=
  shiftMemory rotateRight (zpx s b) 6

/-- `ROR nnnn`, R274, R176. -/
def execRorAbs (w : Word) (s : State) : Outcome :=
  shiftMemory rotateRight (absolute s w) 6

/-- `ROR nnnn,X`, R274, R177. -/
def execRorAbx (w : Word) (s : State) : Outcome :=
  shiftMemory rotateRight (abx s w) 7

end Sys2Proof.Machine
end

