-- ==== Sys2Proof/Machine/System.lean ====
section
/-! DEFINITION. Stack, flag and system instructions and the placeholder (45_stack_flag_system.md). -/

namespace Sys2Proof.Machine

/-- `PHA`, R301, R170. -/
def execPha (s : State) : Outcome :=
  .next ((s.push s.cpu.a).charge 3 false false 0)

/-- `PHP`, R302, R170. -/
def execPhp (s : State) : Outcome :=
  .next ((s.push (pushedP s.cpu.p true)).charge 3 false false 0)

/-- `PLA`, R303, R170. -/
def execPla (s : State) : Outcome :=
  let r := s.pull
  .next (((r.state.setA r.value).setZN r.value).charge 4 false false 0)

/-- `PLP`, R304, R170. -/
def execPlp (s : State) : Outcome :=
  let r := s.pull
  .next ((r.state.setP (loadedP r.value)).charge 4 false false 0)

/-- `CLC`, R305, R170. -/
def execClc (s : State) : Outcome :=
  .next ((s.setFlag .c false).charge 2 false false 0)

/-- `SEC`, R306, R170. -/
def execSec (s : State) : Outcome :=
  .next ((s.setFlag .c true).charge 2 false false 0)

/-- `CLI`, R307, R170. -/
def execCli (s : State) : Outcome :=
  .next ((s.setFlag .i false).charge 2 false false 0)

/-- `SEI`, R308, R170. -/
def execSei (s : State) : Outcome :=
  .next ((s.setFlag .i true).charge 2 false false 0)

/-- `CLV`, R309, R170. -/
def execClv (s : State) : Outcome :=
  .next ((s.setFlag .v false).charge 2 false false 0)

/-- `CLD`, R310, R170. -/
def execCld (s : State) : Outcome :=
  .next ((s.setFlag .d false).charge 2 false false 0)

/-- `SED`, R311, R170. -/
def execSed (s : State) : Outcome :=
  .next ((s.setFlag .d true).charge 2 false false 0)

/-- `NOP`, R312, R170. -/
def execNop (s : State) : Outcome :=
  .next (s.charge 2 false false 0)

/-- `BRK`, R313, R170. -/
def execBrk (s : State) : Outcome :=
  .next ((s.setPc (s.cpu.pc + 1)).enterBreak.charge 7 false false 0)

/-- `RTI`, R314, R170. -/
def execRti (s : State) : Outcome :=
  .next (s.returnFromInterrupt.charge 6 false false 0)

/-- `ILL`, R315: nothing but the cost `ILLEGAL_CYCLES`, whatever the opcode byte. -/
def execIll (_op : Byte) (s : State) : Outcome := .next (s.charge s.params.illegalCycles false false 0)

end Sys2Proof.Machine
end

