-- ==== Sys2Proof/Syntax.lean ====
section
/-! DEFINITION. The instructions (R130 to R141): one constructor for each documented row of the opcode
table, and `ill`, which holds its opcode byte, for the 105 rows of the one placeholder. -/

namespace Sys2Proof

/-- The twelve addressing modes, the formats of R131. -/
inductive Mode where
  | imp
  | imm
  | zp0
  | zpx
  | zpy
  | rel
  | abs
  | abx
  | aby
  | ind
  | izx
  | izy
  deriving DecidableEq, Repr

/-- The mnemonics of R135 and the placeholder's of R140. -/
inductive Mnemonic where
  | lda
  | ldx
  | ldy
  | sta
  | stx
  | sty
  | tax
  | tay
  | txa
  | tya
  | tsx
  | txs
  | adc
  | sbc
  | and
  | ora
  | eor
  | bit
  | cmp
  | cpx
  | cpy
  | inc
  | dec
  | inx
  | iny
  | dex
  | dey
  | asl
  | lsr
  | rol
  | ror
  | bcc
  | bcs
  | beq
  | bne
  | bpl
  | bmi
  | bvc
  | bvs
  | jmp
  | jsr
  | rts
  | pha
  | php
  | pla
  | plp
  | clc
  | sec
  | cli
  | sei
  | clv
  | cld
  | sed
  | nop
  | brk
  | rti
  | ill
  deriving DecidableEq, Repr

/-- An instruction with its operand bytes: `b` one byte (a value, a zero-page address or a branch offset),
`w` the two bytes of an address, low byte first (R131, R132). -/
inductive Instr where
  /-- `LDA #nn`, opcode 0xA9, R201. -/
  | ldaImm (b : Byte)
  /-- `LDA nn`, opcode 0xA5, R201. -/
  | ldaZp0 (b : Byte)
  /-- `LDA nn,X`, opcode 0xB5, R201. -/
  | ldaZpx (b : Byte)
  /-- `LDA nnnn`, opcode 0xAD, R201. -/
  | ldaAbs (w : Word)
  /-- `LDA nnnn,X`, opcode 0xBD, R201. -/
  | ldaAbx (w : Word)
  /-- `LDA nnnn,Y`, opcode 0xB9, R201. -/
  | ldaAby (w : Word)
  /-- `LDA (nn,X)`, opcode 0xA1, R201. -/
  | ldaIzx (b : Byte)
  /-- `LDA (nn),Y`, opcode 0xB1, R201. -/
  | ldaIzy (b : Byte)
  /-- `LDX #nn`, opcode 0xA2, R202. -/
  | ldxImm (b : Byte)
  /-- `LDX nn`, opcode 0xA6, R202. -/
  | ldxZp0 (b : Byte)
  /-- `LDX nn,Y`, opcode 0xB6, R202. -/
  | ldxZpy (b : Byte)
  /-- `LDX nnnn`, opcode 0xAE, R202. -/
  | ldxAbs (w : Word)
  /-- `LDX nnnn,Y`, opcode 0xBE, R202. -/
  | ldxAby (w : Word)
  /-- `LDY #nn`, opcode 0xA0, R203. -/
  | ldyImm (b : Byte)
  /-- `LDY nn`, opcode 0xA4, R203. -/
  | ldyZp0 (b : Byte)
  /-- `LDY nn,X`, opcode 0xB4, R203. -/
  | ldyZpx (b : Byte)
  /-- `LDY nnnn`, opcode 0xAC, R203. -/
  | ldyAbs (w : Word)
  /-- `LDY nnnn,X`, opcode 0xBC, R203. -/
  | ldyAbx (w : Word)
  /-- `STA nn`, opcode 0x85, R204. -/
  | staZp0 (b : Byte)
  /-- `STA nn,X`, opcode 0x95, R204. -/
  | staZpx (b : Byte)
  /-- `STA nnnn`, opcode 0x8D, R204. -/
  | staAbs (w : Word)
  /-- `STA nnnn,X`, opcode 0x9D, R204. -/
  | staAbx (w : Word)
  /-- `STA nnnn,Y`, opcode 0x99, R204. -/
  | staAby (w : Word)
  /-- `STA (nn,X)`, opcode 0x81, R204. -/
  | staIzx (b : Byte)
  /-- `STA (nn),Y`, opcode 0x91, R204. -/
  | staIzy (b : Byte)
  /-- `STX nn`, opcode 0x86, R205. -/
  | stxZp0 (b : Byte)
  /-- `STX nn,Y`, opcode 0x96, R205. -/
  | stxZpy (b : Byte)
  /-- `STX nnnn`, opcode 0x8E, R205. -/
  | stxAbs (w : Word)
  /-- `STY nn`, opcode 0x84, R206. -/
  | styZp0 (b : Byte)
  /-- `STY nn,X`, opcode 0x94, R206. -/
  | styZpx (b : Byte)
  /-- `STY nnnn`, opcode 0x8C, R206. -/
  | styAbs (w : Word)
  /-- `TAX`, opcode 0xAA, R207. -/
  | tax
  /-- `TAY`, opcode 0xA8, R208. -/
  | tay
  /-- `TXA`, opcode 0x8A, R209. -/
  | txa
  /-- `TYA`, opcode 0x98, R210. -/
  | tya
  /-- `TSX`, opcode 0xBA, R211. -/
  | tsx
  /-- `TXS`, opcode 0x9A, R212. -/
  | txs
  /-- `ADC #nn`, opcode 0x69, R231. -/
  | adcImm (b : Byte)
  /-- `ADC nn`, opcode 0x65, R231. -/
  | adcZp0 (b : Byte)
  /-- `ADC nn,X`, opcode 0x75, R231. -/
  | adcZpx (b : Byte)
  /-- `ADC nnnn`, opcode 0x6D, R231. -/
  | adcAbs (w : Word)
  /-- `ADC nnnn,X`, opcode 0x7D, R231. -/
  | adcAbx (w : Word)
  /-- `ADC nnnn,Y`, opcode 0x79, R231. -/
  | adcAby (w : Word)
  /-- `ADC (nn,X)`, opcode 0x61, R231. -/
  | adcIzx (b : Byte)
  /-- `ADC (nn),Y`, opcode 0x71, R231. -/
  | adcIzy (b : Byte)
  /-- `SBC #nn`, opcode 0xE9, R232. -/
  | sbcImm (b : Byte)
  /-- `SBC nn`, opcode 0xE5, R232. -/
  | sbcZp0 (b : Byte)
  /-- `SBC nn,X`, opcode 0xF5, R232. -/
  | sbcZpx (b : Byte)
  /-- `SBC nnnn`, opcode 0xED, R232. -/
  | sbcAbs (w : Word)
  /-- `SBC nnnn,X`, opcode 0xFD, R232. -/
  | sbcAbx (w : Word)
  /-- `SBC nnnn,Y`, opcode 0xF9, R232. -/
  | sbcAby (w : Word)
  /-- `SBC (nn,X)`, opcode 0xE1, R232. -/
  | sbcIzx (b : Byte)
  /-- `SBC (nn),Y`, opcode 0xF1, R232. -/
  | sbcIzy (b : Byte)
  /-- `AND #nn`, opcode 0x29, R233. -/
  | andImm (b : Byte)
  /-- `AND nn`, opcode 0x25, R233. -/
  | andZp0 (b : Byte)
  /-- `AND nn,X`, opcode 0x35, R233. -/
  | andZpx (b : Byte)
  /-- `AND nnnn`, opcode 0x2D, R233. -/
  | andAbs (w : Word)
  /-- `AND nnnn,X`, opcode 0x3D, R233. -/
  | andAbx (w : Word)
  /-- `AND nnnn,Y`, opcode 0x39, R233. -/
  | andAby (w : Word)
  /-- `AND (nn,X)`, opcode 0x21, R233. -/
  | andIzx (b : Byte)
  /-- `AND (nn),Y`, opcode 0x31, R233. -/
  | andIzy (b : Byte)
  /-- `ORA #nn`, opcode 0x09, R234. -/
  | oraImm (b : Byte)
  /-- `ORA nn`, opcode 0x05, R234. -/
  | oraZp0 (b : Byte)
  /-- `ORA nn,X`, opcode 0x15, R234. -/
  | oraZpx (b : Byte)
  /-- `ORA nnnn`, opcode 0x0D, R234. -/
  | oraAbs (w : Word)
  /-- `ORA nnnn,X`, opcode 0x1D, R234. -/
  | oraAbx (w : Word)
  /-- `ORA nnnn,Y`, opcode 0x19, R234. -/
  | oraAby (w : Word)
  /-- `ORA (nn,X)`, opcode 0x01, R234. -/
  | oraIzx (b : Byte)
  /-- `ORA (nn),Y`, opcode 0x11, R234. -/
  | oraIzy (b : Byte)
  /-- `EOR #nn`, opcode 0x49, R235. -/
  | eorImm (b : Byte)
  /-- `EOR nn`, opcode 0x45, R235. -/
  | eorZp0 (b : Byte)
  /-- `EOR nn,X`, opcode 0x55, R235. -/
  | eorZpx (b : Byte)
  /-- `EOR nnnn`, opcode 0x4D, R235. -/
  | eorAbs (w : Word)
  /-- `EOR nnnn,X`, opcode 0x5D, R235. -/
  | eorAbx (w : Word)
  /-- `EOR nnnn,Y`, opcode 0x59, R235. -/
  | eorAby (w : Word)
  /-- `EOR (nn,X)`, opcode 0x41, R235. -/
  | eorIzx (b : Byte)
  /-- `EOR (nn),Y`, opcode 0x51, R235. -/
  | eorIzy (b : Byte)
  /-- `BIT nn`, opcode 0x24, R236. -/
  | bitZp0 (b : Byte)
  /-- `BIT nnnn`, opcode 0x2C, R236. -/
  | bitAbs (w : Word)
  /-- `CMP #nn`, opcode 0xC9, R237. -/
  | cmpImm (b : Byte)
  /-- `CMP nn`, opcode 0xC5, R237. -/
  | cmpZp0 (b : Byte)
  /-- `CMP nn,X`, opcode 0xD5, R237. -/
  | cmpZpx (b : Byte)
  /-- `CMP nnnn`, opcode 0xCD, R237. -/
  | cmpAbs (w : Word)
  /-- `CMP nnnn,X`, opcode 0xDD, R237. -/
  | cmpAbx (w : Word)
  /-- `CMP nnnn,Y`, opcode 0xD9, R237. -/
  | cmpAby (w : Word)
  /-- `CMP (nn,X)`, opcode 0xC1, R237. -/
  | cmpIzx (b : Byte)
  /-- `CMP (nn),Y`, opcode 0xD1, R237. -/
  | cmpIzy (b : Byte)
  /-- `CPX #nn`, opcode 0xE0, R238. -/
  | cpxImm (b : Byte)
  /-- `CPX nn`, opcode 0xE4, R238. -/
  | cpxZp0 (b : Byte)
  /-- `CPX nnnn`, opcode 0xEC, R238. -/
  | cpxAbs (w : Word)
  /-- `CPY #nn`, opcode 0xC0, R239. -/
  | cpyImm (b : Byte)
  /-- `CPY nn`, opcode 0xC4, R239. -/
  | cpyZp0 (b : Byte)
  /-- `CPY nnnn`, opcode 0xCC, R239. -/
  | cpyAbs (w : Word)
  /-- `INC nn`, opcode 0xE6, R240. -/
  | incZp0 (b : Byte)
  /-- `INC nn,X`, opcode 0xF6, R240. -/
  | incZpx (b : Byte)
  /-- `INC nnnn`, opcode 0xEE, R240. -/
  | incAbs (w : Word)
  /-- `INC nnnn,X`, opcode 0xFE, R240. -/
  | incAbx (w : Word)
  /-- `DEC nn`, opcode 0xC6, R241. -/
  | decZp0 (b : Byte)
  /-- `DEC nn,X`, opcode 0xD6, R241. -/
  | decZpx (b : Byte)
  /-- `DEC nnnn`, opcode 0xCE, R241. -/
  | decAbs (w : Word)
  /-- `DEC nnnn,X`, opcode 0xDE, R241. -/
  | decAbx (w : Word)
  /-- `INX`, opcode 0xE8, R242. -/
  | inx
  /-- `INY`, opcode 0xC8, R243. -/
  | iny
  /-- `DEX`, opcode 0xCA, R244. -/
  | dex
  /-- `DEY`, opcode 0x88, R245. -/
  | dey
  /-- `ASL A`, opcode 0x0A, R271. -/
  | aslImp
  /-- `ASL nn`, opcode 0x06, R271. -/
  | aslZp0 (b : Byte)
  /-- `ASL nn,X`, opcode 0x16, R271. -/
  | aslZpx (b : Byte)
  /-- `ASL nnnn`, opcode 0x0E, R271. -/
  | aslAbs (w : Word)
  /-- `ASL nnnn,X`, opcode 0x1E, R271. -/
  | aslAbx (w : Word)
  /-- `LSR A`, opcode 0x4A, R272. -/
  | lsrImp
  /-- `LSR nn`, opcode 0x46, R272. -/
  | lsrZp0 (b : Byte)
  /-- `LSR nn,X`, opcode 0x56, R272. -/
  | lsrZpx (b : Byte)
  /-- `LSR nnnn`, opcode 0x4E, R272. -/
  | lsrAbs (w : Word)
  /-- `LSR nnnn,X`, opcode 0x5E, R272. -/
  | lsrAbx (w : Word)
  /-- `ROL A`, opcode 0x2A, R273. -/
  | rolImp
  /-- `ROL nn`, opcode 0x26, R273. -/
  | rolZp0 (b : Byte)
  /-- `ROL nn,X`, opcode 0x36, R273. -/
  | rolZpx (b : Byte)
  /-- `ROL nnnn`, opcode 0x2E, R273. -/
  | rolAbs (w : Word)
  /-- `ROL nnnn,X`, opcode 0x3E, R273. -/
  | rolAbx (w : Word)
  /-- `ROR A`, opcode 0x6A, R274. -/
  | rorImp
  /-- `ROR nn`, opcode 0x66, R274. -/
  | rorZp0 (b : Byte)
  /-- `ROR nn,X`, opcode 0x76, R274. -/
  | rorZpx (b : Byte)
  /-- `ROR nnnn`, opcode 0x6E, R274. -/
  | rorAbs (w : Word)
  /-- `ROR nnnn,X`, opcode 0x7E, R274. -/
  | rorAbx (w : Word)
  /-- `BCC rel`, opcode 0x90, R281. -/
  | bcc (b : Byte)
  /-- `BCS rel`, opcode 0xB0, R282. -/
  | bcs (b : Byte)
  /-- `BEQ rel`, opcode 0xF0, R283. -/
  | beq (b : Byte)
  /-- `BNE rel`, opcode 0xD0, R284. -/
  | bne (b : Byte)
  /-- `BPL rel`, opcode 0x10, R285. -/
  | bpl (b : Byte)
  /-- `BMI rel`, opcode 0x30, R286. -/
  | bmi (b : Byte)
  /-- `BVC rel`, opcode 0x50, R287. -/
  | bvc (b : Byte)
  /-- `BVS rel`, opcode 0x70, R288. -/
  | bvs (b : Byte)
  /-- `JMP nnnn`, opcode 0x4C, R289. -/
  | jmpAbs (w : Word)
  /-- `JMP (nnnn)`, opcode 0x6C, R289. -/
  | jmpInd (w : Word)
  /-- `JSR nnnn`, opcode 0x20, R290. -/
  | jsr (w : Word)
  /-- `RTS`, opcode 0x60, R291. -/
  | rts
  /-- `PHA`, opcode 0x48, R301. -/
  | pha
  /-- `PHP`, opcode 0x08, R302. -/
  | php
  /-- `PLA`, opcode 0x68, R303. -/
  | pla
  /-- `PLP`, opcode 0x28, R304. -/
  | plp
  /-- `CLC`, opcode 0x18, R305. -/
  | clc
  /-- `SEC`, opcode 0x38, R306. -/
  | sec
  /-- `CLI`, opcode 0x58, R307. -/
  | cli
  /-- `SEI`, opcode 0x78, R308. -/
  | sei
  /-- `CLV`, opcode 0xB8, R309. -/
  | clv
  /-- `CLD`, opcode 0xD8, R310. -/
  | cld
  /-- `SED`, opcode 0xF8, R311. -/
  | sed
  /-- `NOP`, opcode 0xEA, R312. -/
  | nop
  /-- `BRK`, opcode 0x00, R313. -/
  | brk
  /-- `RTI`, opcode 0x40, R314. -/
  | rti
  /-- `ILL`, the placeholder, with one of the 105 opcode bytes of R141; R315. -/
  | ill (op : Byte)
  deriving DecidableEq, Repr

end Sys2Proof
end

