-- ==== Sys2Proof/Machine/Dma.lean ====
section
/-! DEFINITION. One sub-step of the OAM DMA controller (R351 to R355), run on a CPU slot in the CPU's place. -/

namespace Sys2Proof.Machine

/-- The source address of a transfer, `dma_page ++ dma_index` (R353). -/
def Dma.source (d : Dma) : Word := wordOf d.index d.page

/-- The read half, R353: an ordinary bus read with its side effects. -/
def State.dmaRead (s : State) : State :=
  let r := s.memRead s.dma.source
  r.state.setDma { r.state.dma with data := r.value }

/-- The write half, R354 and R355: into OAM at `dma_index`, not through the bus; after index 0xFF the
controller is idle again. -/
def State.dmaWrite (s : State) : State :=
  let t := s.setPpu { s.ppu with oam := s.ppu.oam.write s.dma.index.toNat s.dma.data }
  let next := s.dma.index + 1
  if next = 0 then t.setDma { t.dma with index := next, enable := false, wait := true }
  else t.setDma { t.dma with index := next }

/-- `DmaStep()` of R351: the parity of the tick count selects the half. -/
def State.dmaStep (s : State) : State :=
  let odd := decide (s.clock % 2 = 1)
  if s.dma.wait then
    if odd then s.setDma { s.dma with wait := false } else s
  else if odd then s.dmaWrite
  else s.dmaRead

end Sys2Proof.Machine
end

