-- ==== Sys2Proof/Machine/OpcodeTable.lean ====
section
/-! DEFINITION. What the opcode table says of a row beside its opcode byte (R135, R137, R163): mnemonic,
addressing mode, length and base cycles. -/

namespace Sys2Proof

/-- How many operand bytes follow the opcode byte (R131). -/
def Mode.operandBytes : Mode → Nat
  | .imp => 0
  | .imm | .zp0 | .zpx | .zpy | .rel | .izx | .izy => 1
  | .abs | .abx | .aby | .ind => 2

/-- The row's mnemonic (R135, R140). -/
def Instr.mnemonic : Instr → Mnemonic
  | .ldaImm _ | .ldaZp0 _ | .ldaZpx _ | .ldaAbs _ | .ldaAbx _ | .ldaAby _ | .ldaIzx _ | .ldaIzy _ => .lda
  | .ldxImm _ | .ldxZp0 _ | .ldxZpy _ | .ldxAbs _ | .ldxAby _ => .ldx
  | .ldyImm _ | .ldyZp0 _ | .ldyZpx _ | .ldyAbs _ | .ldyAbx _ => .ldy
  | .staZp0 _ | .staZpx _ | .staAbs _ | .staAbx _ | .staAby _ | .staIzx _ | .staIzy _ => .sta
  | .stxZp0 _ | .stxZpy _ | .stxAbs _ => .stx
  | .styZp0 _ | .styZpx _ | .styAbs _ => .sty
  | .tax => .tax
  | .tay => .tay
  | .txa => .txa
  | .tya => .tya
  | .tsx => .tsx
  | .txs => .txs
  | .adcImm _ | .adcZp0 _ | .adcZpx _ | .adcAbs _ | .adcAbx _ | .adcAby _ | .adcIzx _ | .adcIzy _ => .adc
  | .sbcImm _ | .sbcZp0 _ | .sbcZpx _ | .sbcAbs _ | .sbcAbx _ | .sbcAby _ | .sbcIzx _ | .sbcIzy _ => .sbc
  | .andImm _ | .andZp0 _ | .andZpx _ | .andAbs _ | .andAbx _ | .andAby _ | .andIzx _ | .andIzy _ => .and
  | .oraImm _ | .oraZp0 _ | .oraZpx _ | .oraAbs _ | .oraAbx _ | .oraAby _ | .oraIzx _ | .oraIzy _ => .ora
  | .eorImm _ | .eorZp0 _ | .eorZpx _ | .eorAbs _ | .eorAbx _ | .eorAby _ | .eorIzx _ | .eorIzy _ => .eor
  | .bitZp0 _ | .bitAbs _ => .bit
  | .cmpImm _ | .cmpZp0 _ | .cmpZpx _ | .cmpAbs _ | .cmpAbx _ | .cmpAby _ | .cmpIzx _ | .cmpIzy _ => .cmp
  | .cpxImm _ | .cpxZp0 _ | .cpxAbs _ => .cpx
  | .cpyImm _ | .cpyZp0 _ | .cpyAbs _ => .cpy
  | .incZp0 _ | .incZpx _ | .incAbs _ | .incAbx _ => .inc
  | .decZp0 _ | .decZpx _ | .decAbs _ | .decAbx _ => .dec
  | .inx => .inx
  | .iny => .iny
  | .dex => .dex
  | .dey => .dey
  | .aslImp | .aslZp0 _ | .aslZpx _ | .aslAbs _ | .aslAbx _ => .asl
  | .lsrImp | .lsrZp0 _ | .lsrZpx _ | .lsrAbs _ | .lsrAbx _ => .lsr
  | .rolImp | .rolZp0 _ | .rolZpx _ | .rolAbs _ | .rolAbx _ => .rol
  | .rorImp | .rorZp0 _ | .rorZpx _ | .rorAbs _ | .rorAbx _ => .ror
  | .bcc _ => .bcc
  | .bcs _ => .bcs
  | .beq _ => .beq
  | .bne _ => .bne
  | .bpl _ => .bpl
  | .bmi _ => .bmi
  | .bvc _ => .bvc
  | .bvs _ => .bvs
  | .jmpAbs _ | .jmpInd _ => .jmp
  | .jsr _ => .jsr
  | .rts => .rts
  | .pha => .pha
  | .php => .php
  | .pla => .pla
  | .plp => .plp
  | .clc => .clc
  | .sec => .sec
  | .cli => .cli
  | .sei => .sei
  | .clv => .clv
  | .cld => .cld
  | .sed => .sed
  | .nop => .nop
  | .brk => .brk
  | .rti => .rti
  | .ill _ => .ill

/-- The row's addressing mode (R131, R135); the placeholder's is Implied (R140). -/
def Instr.mode : Instr → Mode
  | .tax | .tay | .txa | .tya | .tsx | .txs | .inx | .iny | .dex | .dey | .aslImp | .lsrImp
  | .rolImp | .rorImp | .rts | .pha | .php | .pla | .plp | .clc | .sec | .cli | .sei | .clv | .cld
  | .sed | .nop | .brk | .rti | .ill _ => .imp
  | .ldaImm _ | .ldxImm _ | .ldyImm _ | .adcImm _ | .sbcImm _ | .andImm _ | .oraImm _ | .eorImm _
  | .cmpImm _ | .cpxImm _ | .cpyImm _ => .imm
  | .ldaZp0 _ | .ldxZp0 _ | .ldyZp0 _ | .staZp0 _ | .stxZp0 _ | .styZp0 _ | .adcZp0 _ | .sbcZp0 _
  | .andZp0 _ | .oraZp0 _ | .eorZp0 _ | .bitZp0 _ | .cmpZp0 _ | .cpxZp0 _ | .cpyZp0 _ | .incZp0 _
  | .decZp0 _ | .aslZp0 _ | .lsrZp0 _ | .rolZp0 _ | .rorZp0 _ => .zp0
  | .ldaZpx _ | .ldyZpx _ | .staZpx _ | .styZpx _ | .adcZpx _ | .sbcZpx _ | .andZpx _ | .oraZpx _
  | .eorZpx _ | .cmpZpx _ | .incZpx _ | .decZpx _ | .aslZpx _ | .lsrZpx _ | .rolZpx _ | .rorZpx _ => .zpx
  | .ldxZpy _ | .stxZpy _ => .zpy
  | .bcc _ | .bcs _ | .beq _ | .bne _ | .bpl _ | .bmi _ | .bvc _ | .bvs _ => .rel
  | .ldaAbs _ | .ldxAbs _ | .ldyAbs _ | .staAbs _ | .stxAbs _ | .styAbs _ | .adcAbs _ | .sbcAbs _
  | .andAbs _ | .oraAbs _ | .eorAbs _ | .bitAbs _ | .cmpAbs _ | .cpxAbs _ | .cpyAbs _ | .incAbs _
  | .decAbs _ | .aslAbs _ | .lsrAbs _ | .rolAbs _ | .rorAbs _ | .jmpAbs _ | .jsr _ => .abs
  | .ldaAbx _ | .ldyAbx _ | .staAbx _ | .adcAbx _ | .sbcAbx _ | .andAbx _ | .oraAbx _ | .eorAbx _
  | .cmpAbx _ | .incAbx _ | .decAbx _ | .aslAbx _ | .lsrAbx _ | .rolAbx _ | .rorAbx _ => .abx
  | .ldaAby _ | .ldxAby _ | .staAby _ | .adcAby _ | .sbcAby _ | .andAby _ | .oraAby _ | .eorAby _
  | .cmpAby _ => .aby
  | .jmpInd _ => .ind
  | .ldaIzx _ | .staIzx _ | .adcIzx _ | .sbcIzx _ | .andIzx _ | .oraIzx _ | .eorIzx _ | .cmpIzx _ => .izx
  | .ldaIzy _ | .staIzy _ | .adcIzy _ | .sbcIzy _ | .andIzy _ | .oraIzy _ | .eorIzy _ | .cmpIzy _ => .izy

/-- The instruction's length in bytes, opcode byte included (R130, R131). -/
def Instr.length (i : Instr) : Nat := 1 + i.mode.operandBytes

/-- The extra-cycle flag of R163: 1 for nine mnemonics. -/
def Mnemonic.extraFlag : Mnemonic → Bool
  | .lda | .ldx | .ldy | .adc | .sbc | .and | .ora | .eor | .cmp => true
  | .sta | .stx | .sty | .tax | .tay | .txa | .tya | .tsx | .txs | .bit | .cpx | .cpy | .inc | .dec
  | .inx | .iny | .dex | .dey | .asl | .lsr | .rol | .ror | .bcc | .bcs | .beq | .bne | .bpl | .bmi
  | .bvc | .bvs | .jmp | .jsr | .rts | .pha | .php | .pla | .plp | .clc | .sec | .cli | .sei | .clv
  | .cld | .sed | .nop | .brk | .rti | .ill => false

/-- The row's base cycles (R135); `illegal` is `ILLEGAL_CYCLES` (R315). -/
def Instr.baseCycles (illegal : Nat) : Instr → Nat
  | .ldaImm _ | .ldxImm _ | .ldyImm _ | .tax | .tay | .txa | .tya | .tsx | .txs | .adcImm _
  | .sbcImm _ | .andImm _ | .oraImm _ | .eorImm _ | .cmpImm _ | .cpxImm _ | .cpyImm _ | .inx | .iny
  | .dex | .dey | .aslImp | .lsrImp | .rolImp | .rorImp | .bcc _ | .bcs _ | .beq _ | .bne _
  | .bpl _ | .bmi _ | .bvc _ | .bvs _ | .clc | .sec | .cli | .sei | .clv | .cld | .sed | .nop => 2
  | .ldaZp0 _ | .ldxZp0 _ | .ldyZp0 _ | .staZp0 _ | .stxZp0 _ | .styZp0 _ | .adcZp0 _ | .sbcZp0 _
  | .andZp0 _ | .oraZp0 _ | .eorZp0 _ | .bitZp0 _ | .cmpZp0 _ | .cpxZp0 _ | .cpyZp0 _ | .jmpAbs _
  | .pha | .php => 3
  | .ldaZpx _ | .ldaAbs _ | .ldaAbx _ | .ldaAby _ | .ldxZpy _ | .ldxAbs _ | .ldxAby _ | .ldyZpx _
  | .ldyAbs _ | .ldyAbx _ | .staZpx _ | .staAbs _ | .stxZpy _ | .stxAbs _ | .styZpx _ | .styAbs _
  | .adcZpx _ | .adcAbs _ | .adcAbx _ | .adcAby _ | .sbcZpx _ | .sbcAbs _ | .sbcAbx _ | .sbcAby _
  | .andZpx _ | .andAbs _ | .andAbx _ | .andAby _ | .oraZpx _ | .oraAbs _ | .oraAbx _ | .oraAby _
  | .eorZpx _ | .eorAbs _ | .eorAbx _ | .eorAby _ | .bitAbs _ | .cmpZpx _ | .cmpAbs _ | .cmpAbx _
  | .cmpAby _ | .cpxAbs _ | .cpyAbs _ | .pla | .plp => 4
  | .ldaIzy _ | .staAbx _ | .staAby _ | .adcIzy _ | .sbcIzy _ | .andIzy _ | .oraIzy _ | .eorIzy _
  | .cmpIzy _ | .incZp0 _ | .decZp0 _ | .aslZp0 _ | .lsrZp0 _ | .rolZp0 _ | .rorZp0 _ | .jmpInd _ => 5
  | .ldaIzx _ | .staIzx _ | .staIzy _ | .adcIzx _ | .sbcIzx _ | .andIzx _ | .oraIzx _ | .eorIzx _
  | .cmpIzx _ | .incZpx _ | .incAbs _ | .decZpx _ | .decAbs _ | .aslZpx _ | .aslAbs _ | .lsrZpx _
  | .lsrAbs _ | .rolZpx _ | .rolAbs _ | .rorZpx _ | .rorAbs _ | .jsr _ | .rts | .rti => 6
  | .incAbx _ | .decAbx _ | .aslAbx _ | .lsrAbx _ | .rolAbx _ | .rorAbx _ | .brk => 7
  | .ill _ => illegal

end Sys2Proof
end

