-- ==== Sys2Proof/Decode.lean ====
section
/-! DEFINITION. The decoder, a table lookup by opcode byte (R130, R133, R161), and the encoder. -/

namespace Sys2Proof

/-- Why a string of bytes is no instruction. -/
inductive DecodeError where
  /-- There is no opcode byte. -/
  | noOpcode
  /-- The bytes end before the operand bytes of this opcode. -/
  | truncated (op : Byte)
  deriving DecidableEq, Repr

/-- The row of the opcode byte `op`, with operand bytes `b1` and `b2` where it has them (R135, R136); every
byte the table does not document is the placeholder (R140). -/
def decodeRow (op b1 b2 : Byte) : Instr :=
  match op.toNat with
  | 0x00 => .brk
  | 0x01 => .oraIzx b1
  | 0x05 => .oraZp0 b1
  | 0x06 => .aslZp0 b1
  | 0x08 => .php
  | 0x09 => .oraImm b1
  | 0x0A => .aslImp
  | 0x0D => .oraAbs (wordOf b1 b2)
  | 0x0E => .aslAbs (wordOf b1 b2)
  | 0x10 => .bpl b1
  | 0x11 => .oraIzy b1
  | 0x15 => .oraZpx b1
  | 0x16 => .aslZpx b1
  | 0x18 => .clc
  | 0x19 => .oraAby (wordOf b1 b2)
  | 0x1D => .oraAbx (wordOf b1 b2)
  | 0x1E => .aslAbx (wordOf b1 b2)
  | 0x20 => .jsr (wordOf b1 b2)
  | 0x21 => .andIzx b1
  | 0x24 => .bitZp0 b1
  | 0x25 => .andZp0 b1
  | 0x26 => .rolZp0 b1
  | 0x28 => .plp
  | 0x29 => .andImm b1
  | 0x2A => .rolImp
  | 0x2C => .bitAbs (wordOf b1 b2)
  | 0x2D => .andAbs (wordOf b1 b2)
  | 0x2E => .rolAbs (wordOf b1 b2)
  | 0x30 => .bmi b1
  | 0x31 => .andIzy b1
  | 0x35 => .andZpx b1
  | 0x36 => .rolZpx b1
  | 0x38 => .sec
  | 0x39 => .andAby (wordOf b1 b2)
  | 0x3D => .andAbx (wordOf b1 b2)
  | 0x3E => .rolAbx (wordOf b1 b2)
  | 0x40 => .rti
  | 0x41 => .eorIzx b1
  | 0x45 => .eorZp0 b1
  | 0x46 => .lsrZp0 b1
  | 0x48 => .pha
  | 0x49 => .eorImm b1
  | 0x4A => .lsrImp
  | 0x4C => .jmpAbs (wordOf b1 b2)
  | 0x4D => .eorAbs (wordOf b1 b2)
  | 0x4E => .lsrAbs (wordOf b1 b2)
  | 0x50 => .bvc b1
  | 0x51 => .eorIzy b1
  | 0x55 => .eorZpx b1
  | 0x56 => .lsrZpx b1
  | 0x58 => .cli
  | 0x59 => .eorAby (wordOf b1 b2)
  | 0x5D => .eorAbx (wordOf b1 b2)
  | 0x5E => .lsrAbx (wordOf b1 b2)
  | 0x60 => .rts
  | 0x61 => .adcIzx b1
  | 0x65 => .adcZp0 b1
  | 0x66 => .rorZp0 b1
  | 0x68 => .pla
  | 0x69 => .adcImm b1
  | 0x6A => .rorImp
  | 0x6C => .jmpInd (wordOf b1 b2)
  | 0x6D => .adcAbs (wordOf b1 b2)
  | 0x6E => .rorAbs (wordOf b1 b2)
  | 0x70 => .bvs b1
  | 0x71 => .adcIzy b1
  | 0x75 => .adcZpx b1
  | 0x76 => .rorZpx b1
  | 0x78 => .sei
  | 0x79 => .adcAby (wordOf b1 b2)
  | 0x7D => .adcAbx (wordOf b1 b2)
  | 0x7E => .rorAbx (wordOf b1 b2)
  | 0x81 => .staIzx b1
  | 0x84 => .styZp0 b1
  | 0x85 => .staZp0 b1
  | 0x86 => .stxZp0 b1
  | 0x88 => .dey
  | 0x8A => .txa
  | 0x8C => .styAbs (wordOf b1 b2)
  | 0x8D => .staAbs (wordOf b1 b2)
  | 0x8E => .stxAbs (wordOf b1 b2)
  | 0x90 => .bcc b1
  | 0x91 => .staIzy b1
  | 0x94 => .styZpx b1
  | 0x95 => .staZpx b1
  | 0x96 => .stxZpy b1
  | 0x98 => .tya
  | 0x99 => .staAby (wordOf b1 b2)
  | 0x9A => .txs
  | 0x9D => .staAbx (wordOf b1 b2)
  | 0xA0 => .ldyImm b1
  | 0xA1 => .ldaIzx b1
  | 0xA2 => .ldxImm b1
  | 0xA4 => .ldyZp0 b1
  | 0xA5 => .ldaZp0 b1
  | 0xA6 => .ldxZp0 b1
  | 0xA8 => .tay
  | 0xA9 => .ldaImm b1
  | 0xAA => .tax
  | 0xAC => .ldyAbs (wordOf b1 b2)
  | 0xAD => .ldaAbs (wordOf b1 b2)
  | 0xAE => .ldxAbs (wordOf b1 b2)
  | 0xB0 => .bcs b1
  | 0xB1 => .ldaIzy b1
  | 0xB4 => .ldyZpx b1
  | 0xB5 => .ldaZpx b1
  | 0xB6 => .ldxZpy b1
  | 0xB8 => .clv
  | 0xB9 => .ldaAby (wordOf b1 b2)
  | 0xBA => .tsx
  | 0xBC => .ldyAbx (wordOf b1 b2)
  | 0xBD => .ldaAbx (wordOf b1 b2)
  | 0xBE => .ldxAby (wordOf b1 b2)
  | 0xC0 => .cpyImm b1
  | 0xC1 => .cmpIzx b1
  | 0xC4 => .cpyZp0 b1
  | 0xC5 => .cmpZp0 b1
  | 0xC6 => .decZp0 b1
  | 0xC8 => .iny
  | 0xC9 => .cmpImm b1
  | 0xCA => .dex
  | 0xCC => .cpyAbs (wordOf b1 b2)
  | 0xCD => .cmpAbs (wordOf b1 b2)
  | 0xCE => .decAbs (wordOf b1 b2)
  | 0xD0 => .bne b1
  | 0xD1 => .cmpIzy b1
  | 0xD5 => .cmpZpx b1
  | 0xD6 => .decZpx b1
  | 0xD8 => .cld
  | 0xD9 => .cmpAby (wordOf b1 b2)
  | 0xDD => .cmpAbx (wordOf b1 b2)
  | 0xDE => .decAbx (wordOf b1 b2)
  | 0xE0 => .cpxImm b1
  | 0xE1 => .sbcIzx b1
  | 0xE4 => .cpxZp0 b1
  | 0xE5 => .sbcZp0 b1
  | 0xE6 => .incZp0 b1
  | 0xE8 => .inx
  | 0xE9 => .sbcImm b1
  | 0xEA => .nop
  | 0xEC => .cpxAbs (wordOf b1 b2)
  | 0xED => .sbcAbs (wordOf b1 b2)
  | 0xEE => .incAbs (wordOf b1 b2)
  | 0xF0 => .beq b1
  | 0xF1 => .sbcIzy b1
  | 0xF5 => .sbcZpx b1
  | 0xF6 => .incZpx b1
  | 0xF8 => .sed
  | 0xF9 => .sbcAby (wordOf b1 b2)
  | 0xFD => .sbcAbx (wordOf b1 b2)
  | 0xFE => .incAbx (wordOf b1 b2)
  | _ => .ill op

/-- How many operand bytes the opcode byte takes (R130: the opcode byte alone decides). -/
def operandCount (op : Byte) : Nat := (decodeRow op 0 0).mode.operandBytes

/-- The instruction at the head of a string of bytes, and the rest of the string. -/
def decode : List Byte → Except DecodeError (Instr × List Byte)
  | [] => .error .noOpcode
  | op :: rest =>
    match operandCount op, rest with
    | 0, r => .ok (decodeRow op 0 0, r)
    | 1, b1 :: r => .ok (decodeRow op b1 0, r)
    | 2, b1 :: b2 :: r => .ok (decodeRow op b1 b2, r)
    | _, _ => .error (.truncated op)

/-- The bytes of an instruction, in the order of their addresses (R131, R135). -/
def encode : Instr → List Byte
  | .ldaImm b => [0xA9, b]
  | .ldaZp0 b => [0xA5, b]
  | .ldaZpx b => [0xB5, b]
  | .ldaAbs w => [0xAD, lowByte w, highByte w]
  | .ldaAbx w => [0xBD, lowByte w, highByte w]
  | .ldaAby w => [0xB9, lowByte w, highByte w]
  | .ldaIzx b => [0xA1, b]
  | .ldaIzy b => [0xB1, b]
  | .ldxImm b => [0xA2, b]
  | .ldxZp0 b => [0xA6, b]
  | .ldxZpy b => [0xB6, b]
  | .ldxAbs w => [0xAE, lowByte w, highByte w]
  | .ldxAby w => [0xBE, lowByte w, highByte w]
  | .ldyImm b => [0xA0, b]
  | .ldyZp0 b => [0xA4, b]
  | .ldyZpx b => [0xB4, b]
  | .ldyAbs w => [0xAC, lowByte w, highByte w]
  | .ldyAbx w => [0xBC, lowByte w, highByte w]
  | .staZp0 b => [0x85, b]
  | .staZpx b => [0x95, b]
  | .staAbs w => [0x8D, lowByte w, highByte w]
  | .staAbx w => [0x9D, lowByte w, highByte w]
  | .staAby w => [0x99, lowByte w, highByte w]
  | .staIzx b => [0x81, b]
  | .staIzy b => [0x91, b]
  | .stxZp0 b => [0x86, b]
  | .stxZpy b => [0x96, b]
  | .stxAbs w => [0x8E, lowByte w, highByte w]
  | .styZp0 b => [0x84, b]
  | .styZpx b => [0x94, b]
  | .styAbs w => [0x8C, lowByte w, highByte w]
  | .tax => [0xAA]
  | .tay => [0xA8]
  | .txa => [0x8A]
  | .tya => [0x98]
  | .tsx => [0xBA]
  | .txs => [0x9A]
  | .adcImm b => [0x69, b]
  | .adcZp0 b => [0x65, b]
  | .adcZpx b => [0x75, b]
  | .adcAbs w => [0x6D, lowByte w, highByte w]
  | .adcAbx w => [0x7D, lowByte w, highByte w]
  | .adcAby w => [0x79, lowByte w, highByte w]
  | .adcIzx b => [0x61, b]
  | .adcIzy b => [0x71, b]
  | .sbcImm b => [0xE9, b]
  | .sbcZp0 b => [0xE5, b]
  | .sbcZpx b => [0xF5, b]
  | .sbcAbs w => [0xED, lowByte w, highByte w]
  | .sbcAbx w => [0xFD, lowByte w, highByte w]
  | .sbcAby w => [0xF9, lowByte w, highByte w]
  | .sbcIzx b => [0xE1, b]
  | .sbcIzy b => [0xF1, b]
  | .andImm b => [0x29, b]
  | .andZp0 b => [0x25, b]
  | .andZpx b => [0x35, b]
  | .andAbs w => [0x2D, lowByte w, highByte w]
  | .andAbx w => [0x3D, lowByte w, highByte w]
  | .andAby w => [0x39, lowByte w, highByte w]
  | .andIzx b => [0x21, b]
  | .andIzy b => [0x31, b]
  | .oraImm b => [0x09, b]
  | .oraZp0 b => [0x05, b]
  | .oraZpx b => [0x15, b]
  | .oraAbs w => [0x0D, lowByte w, highByte w]
  | .oraAbx w => [0x1D, lowByte w, highByte w]
  | .oraAby w => [0x19, lowByte w, highByte w]
  | .oraIzx b => [0x01, b]
  | .oraIzy b => [0x11, b]
  | .eorImm b => [0x49, b]
  | .eorZp0 b => [0x45, b]
  | .eorZpx b => [0x55, b]
  | .eorAbs w => [0x4D, lowByte w, highByte w]
  | .eorAbx w => [0x5D, lowByte w, highByte w]
  | .eorAby w => [0x59, lowByte w, highByte w]
  | .eorIzx b => [0x41, b]
  | .eorIzy b => [0x51, b]
  | .bitZp0 b => [0x24, b]
  | .bitAbs w => [0x2C, lowByte w, highByte w]
  | .cmpImm b => [0xC9, b]
  | .cmpZp0 b => [0xC5, b]
  | .cmpZpx b => [0xD5, b]
  | .cmpAbs w => [0xCD, lowByte w, highByte w]
  | .cmpAbx w => [0xDD, lowByte w, highByte w]
  | .cmpAby w => [0xD9, lowByte w, highByte w]
  | .cmpIzx b => [0xC1, b]
  | .cmpIzy b => [0xD1, b]
  | .cpxImm b => [0xE0, b]
  | .cpxZp0 b => [0xE4, b]
  | .cpxAbs w => [0xEC, lowByte w, highByte w]
  | .cpyImm b => [0xC0, b]
  | .cpyZp0 b => [0xC4, b]
  | .cpyAbs w => [0xCC, lowByte w, highByte w]
  | .incZp0 b => [0xE6, b]
  | .incZpx b => [0xF6, b]
  | .incAbs w => [0xEE, lowByte w, highByte w]
  | .incAbx w => [0xFE, lowByte w, highByte w]
  | .decZp0 b => [0xC6, b]
  | .decZpx b => [0xD6, b]
  | .decAbs w => [0xCE, lowByte w, highByte w]
  | .decAbx w => [0xDE, lowByte w, highByte w]
  | .inx => [0xE8]
  | .iny => [0xC8]
  | .dex => [0xCA]
  | .dey => [0x88]
  | .aslImp => [0x0A]
  | .aslZp0 b => [0x06, b]
  | .aslZpx b => [0x16, b]
  | .aslAbs w => [0x0E, lowByte w, highByte w]
  | .aslAbx w => [0x1E, lowByte w, highByte w]
  | .lsrImp => [0x4A]
  | .lsrZp0 b => [0x46, b]
  | .lsrZpx b => [0x56, b]
  | .lsrAbs w => [0x4E, lowByte w, highByte w]
  | .lsrAbx w => [0x5E, lowByte w, highByte w]
  | .rolImp => [0x2A]
  | .rolZp0 b => [0x26, b]
  | .rolZpx b => [0x36, b]
  | .rolAbs w => [0x2E, lowByte w, highByte w]
  | .rolAbx w => [0x3E, lowByte w, highByte w]
  | .rorImp => [0x6A]
  | .rorZp0 b => [0x66, b]
  | .rorZpx b => [0x76, b]
  | .rorAbs w => [0x6E, lowByte w, highByte w]
  | .rorAbx w => [0x7E, lowByte w, highByte w]
  | .bcc b => [0x90, b]
  | .bcs b => [0xB0, b]
  | .beq b => [0xF0, b]
  | .bne b => [0xD0, b]
  | .bpl b => [0x10, b]
  | .bmi b => [0x30, b]
  | .bvc b => [0x50, b]
  | .bvs b => [0x70, b]
  | .jmpAbs w => [0x4C, lowByte w, highByte w]
  | .jmpInd w => [0x6C, lowByte w, highByte w]
  | .jsr w => [0x20, lowByte w, highByte w]
  | .rts => [0x60]
  | .pha => [0x48]
  | .php => [0x08]
  | .pla => [0x68]
  | .plp => [0x28]
  | .clc => [0x18]
  | .sec => [0x38]
  | .cli => [0x58]
  | .sei => [0x78]
  | .clv => [0xB8]
  | .cld => [0xD8]
  | .sed => [0xF8]
  | .nop => [0xEA]
  | .brk => [0x00]
  | .rti => [0x40]
  | .ill op => [op]

/-- The opcode byte of an instruction. -/
def Instr.opcode (i : Instr) : Byte := (encode i).headD 0x00

/-- The length of the longest instruction (R130). -/
def longestInstruction : Nat := 3

/-- The bytes of an instruction given as a number, bit 0 the least significant bit of the first byte: the
`nbits` low bits of `w`, zeros above. -/
def tableBytes (nbits w : Nat) : List Byte :=
  (List.range longestInstruction).map (byteOfNat (w % 2 ^ nbits))

/-- What the decoder reads from a row of the opcode table given as a number. -/
def decodeTableWord (nbits w : Nat) : Option Instr :=
  match decode (tableBytes nbits w) with
  | .ok (i, _) => some i
  | .error _ => none

end Sys2Proof
end

