-- ==== Sys2Proof/Machine/Fetch.lean ====
section
/-! DEFINITION. Reading an instruction at `PC` (R160 steps 1 and 2, R130, R166), the side-effect-free view
of a byte of memory, and placing bytes where the next fetch reads them. -/

namespace Sys2Proof.Machine

/-- One byte read at `PC`, and `PC <- PC + 1` (R160, R172). -/
def State.fetchByte (s : State) : Reading :=
  let r := s.memRead s.cpu.pc
  { value := r.value, state := r.state.setPc (r.state.cpu.pc + 1) }

/-- Bytes read and the machine after the reads. -/
structure BytesReading where
  bytes : List Byte
  state : State
  deriving DecidableEq, Repr

/-- `n` bytes read at `PC`, in order. -/
def State.fetchBytes : State → Nat → BytesReading
  | s, 0 => { bytes := [], state := s }
  | s, n + 1 =>
    let r := s.fetchByte
    let rest := State.fetchBytes r.state n
    { bytes := r.value :: rest.bytes, state := rest.state }

/-- The bytes of the instruction at `PC`: the opcode byte, then as many operand bytes as it takes. The order
of reads is that of R160: the operand bytes come before everything else an instruction reads (log entry 14). -/
def State.fetchInstrBytes (s : State) : BytesReading :=
  let op := s.fetchByte
  let operands := op.state.fetchBytes (operandCount op.value)
  { bytes := op.value :: operands.bytes, state := operands.state }

/-- An instruction fetched and the machine after the fetch, `PC` past its last byte (R24). -/
structure InstrReading where
  instr : Instr
  state : State
  deriving DecidableEq, Repr

/-- The instruction at `PC`: every byte decodes (R161). -/
def State.fetchInstr (s : State) : InstrReading :=
  let f := s.fetchInstrBytes
  { instr := decodeRow (f.bytes.getD 0 0) (f.bytes.getD 1 0) (f.bytes.getD 2 0), state := f.state }

/-- The byte that a CPU address shows where it is memory: RAM, PRG-RAM, PRG ROM (R83). `none` for a device
register or an address nothing claims. -/
def State.peek (s : State) (a : Word) : Option Byte :=
  match s.cart.cpuRead a with
  | some v => some v
  | none => if a ≤ 0x1FFF then some (s.ram.read (ramIndex a)) else none

/-- The machine with the memory byte that an address shows replaced, PRG ROM included: the loader's doing,
never an instruction's (log entry 4). `none` where the address is no memory. -/
def State.poke (s : State) (a : Word) (v : Byte) : Option State :=
  if 0x8000 ≤ a then some (s.setCart { s.cart with prg := s.cart.prg.write (s.cart.prgIndex a) v })
  else if a ≤ 0x1FFF then some (s.setRam (s.ram.write (ramIndex a) v))
  else
    match s.cart.mapper with
    | .mapper0 => none
    | .mapper1 r =>
      if inPrgRam a then
        some (s.setCart { s.cart with mapper := .mapper1 { r with prgRam := r.prgRam.write (prgRamIndex a) v } })
      else none

/-- Bytes placed at consecutive addresses. -/
def State.pokeAll (s : State) (a : Word) : List Byte → Option State
  | [] => some s
  | v :: rest =>
    match s.poke a v with
    | some t => State.pokeAll t (a + 1) rest
    | none => none

/-- The machine at an instruction boundary (R373): a CPU slot, no transfer armed, no clocks left. -/
def State.atBoundary (s : State) : State :=
  ((s.setCyc 0).setClock (s.clock - s.clock % 3)).setDma { s.dma with enable := false }

/-- The bytes placed at `PC`; where `PC` does not point into memory, at 0x0000, with `PC` there (log entry 21). -/
def State.placeAtPc (s : State) (bytes : List Byte) : State :=
  match s.pokeAll s.cpu.pc bytes with
  | some t => t
  | none => ((s.setPc 0x0000).pokeAll 0x0000 bytes).getD s

/-- What `withFetchWord` does: the row's bytes where the next step fetches, at an instruction boundary. -/
def State.placeWord (s : State) (nbits w : Nat) : State := s.atBoundary.placeAtPc (tableBytes nbits w)

end Sys2Proof.Machine
end

