-- ==== Sys2Proof/Machine/PpuRender.lean ====
section
/-! DEFINITION. The clock step of the picture unit: background fetches, shifters, scroll updates, pixel
output, vertical blank and counters (R395 to R430). -/

namespace Sys2Proof.Machine

/-- `ShiftBg()` of R400. -/
def Ppu.shiftBg (p : Ppu) : Ppu :=
  if p.showBg then
    { p with shPatLo := p.shPatLo <<< 1, shPatHi := p.shPatHi <<< 1
             shAttLo := p.shAttLo <<< 1, shAttHi := p.shAttHi <<< 1 }
  else p

/-- A shifter with its low byte reloaded (R401). -/
def reloadLow (shifter : BitVec 16) (low : Byte) : BitVec 16 := (shifter &&& 0xFF00) ||| low.setWidth 16

/-- `LoadShifters()` of R401. -/
def Ppu.loadShifters (p : Ppu) : Ppu :=
  if p.showBg then
    { p with shPatLo := reloadLow p.shPatLo p.bgNextLsb
             shPatHi := reloadLow p.shPatHi p.bgNextMsb
             shAttLo := reloadLow p.shAttLo (if p.bgNextAttr.getLsbD 0 then 0xFF else 0x00)
             shAttHi := reloadLow p.shAttHi (if p.bgNextAttr.getLsbD 1 then 0xFF else 0x00) }
  else p

/-- The nametable address of R410, `0x2000 | (vram & 0x0FFF)`. -/
def Ppu.ntAddr (p : Ppu) : PpuAddr := 0x2000 ||| (p.vram &&& 0x0FFF).setWidth 14

/-- The attribute address of R411. -/
def Ppu.atAddr (p : Ppu) : PpuAddr :=
  0x23C0 ||| (if ntY p.vram then 0x0800 else 0) ||| (if ntX p.vram then 0x0400 else 0) |||
    ((coarseY p.vram >>> 2).setWidth 14 <<< 3) ||| (coarseX p.vram >>> 2).setWidth 14

/-- The two bits of an attribute byte that the tile's quadrant selects (R411). -/
def Ppu.attrBits (p : Ppu) (b : Byte) : BitVec 2 :=
  let b := if (coarseY p.vram).getLsbD 1 then b >>> 4 else b
  let b := if (coarseX p.vram).getLsbD 1 then b >>> 2 else b
  b.extractLsb' 0 2

/-- The pattern address of R412; R413 adds 8. -/
def Ppu.patAddr (p : Ppu) : PpuAddr :=
  (if p.bgTable then 0x1000 else 0) + (p.bgNextId.setWidth 14 <<< 4) + (fineY p.vram).setWidth 14

/-- `FetchNt()` of R410. -/
def State.fetchNt (s : State) : State := s.setPpu { s.ppu with bgNextId := s.ppuRead s.ppu.ntAddr }

/-- `FetchAt()` of R411. -/
def State.fetchAt (s : State) : State :=
  s.setPpu { s.ppu with bgNextAttr := s.ppu.attrBits (s.ppuRead s.ppu.atAddr) }

/-- `FetchPatLo()` of R412. -/
def State.fetchPatLo (s : State) : State := s.setPpu { s.ppu with bgNextLsb := s.ppuRead s.ppu.patAddr }

/-- `FetchPatHi()` of R413. -/
def State.fetchPatHi (s : State) : State :=
  s.setPpu { s.ppu with bgNextMsb := s.ppuRead (s.ppu.patAddr + 8) }

/-- `IncX()` of R415, gated by `rendering` (R398). -/
def Ppu.incX (p : Ppu) : Ppu :=
  if p.rendering then
    if coarseX p.vram = 31 then { p with vram := withNtX (withCoarseX p.vram 0) (!ntX p.vram) }
    else { p with vram := withCoarseX p.vram (coarseX p.vram + 1) }
  else p

/-- `IncY()` of R416, gated by `rendering` (R398). -/
def Ppu.incY (p : Ppu) : Ppu :=
  if p.rendering then
    if fineY p.vram ≠ 7 then { p with vram := withFineY p.vram (fineY p.vram + 1) }
    else
      let v := withFineY p.vram 0
      if coarseY v = 29 then { p with vram := withNtY (withCoarseY v 0) (!ntY v) }
      else if coarseY v = 31 then { p with vram := withCoarseY v 0 }
      else { p with vram := withCoarseY v (coarseY v + 1) }
  else p

/-- `TransferX()` of R417. -/
def Ppu.transferX (p : Ppu) : Ppu :=
  if p.rendering then { p with vram := withNtX (withCoarseX p.vram (coarseX p.tram)) (ntX p.tram) } else p

/-- `TransferY()` of R418. -/
def Ppu.transferY (p : Ppu) : Ppu :=
  if p.rendering then
    { p with vram := withNtY (withCoarseY (withFineY p.vram (fineY p.tram)) (coarseY p.tram)) (ntY p.tram) }
  else p

/-- `ClearStatus()` of R420. -/
def Ppu.clearStatus (p : Ppu) : Ppu := { p with vblank := false, sprite0 := false, overflow := false }

/-- `VblankEntry()` of R421. -/
def Ppu.vblankEntry (p : Ppu) : Ppu :=
  { p with vblank := true, nmiPending := p.nmiPending || p.nmiEnable }

/-- An operation of the unit's own state, on the machine. -/
def State.onPpu (s : State) (f : Ppu → Ppu) : State := s.setPpu (f s.ppu)

/-- The cycles in which the background pipeline runs (R395). -/
def inFetchWindow (cycle : Nat) : Bool :=
  (decide (2 ≤ cycle) && decide (cycle ≤ 257)) || (decide (321 ≤ cycle) && decide (cycle ≤ 337))

/-- The fetch sub-step of a cycle, `(cycle - 1) mod 8` (R402). -/
def State.subStep (s : State) : State :=
  match (s.ppu.cycle - 1) % 8 with
  | 0 => (s.onPpu Ppu.loadShifters).fetchNt
  | 2 => s.fetchAt
  | 4 => s.fetchPatLo
  | 6 => s.fetchPatHi
  | 7 => s.onPpu Ppu.incX
  | _ => s

/-- The body of R395 for scanlines -1 to 239, in its order. -/
def State.scanlineWork (s : State) : State :=
  let cycle := s.ppu.cycle
  let preRender := decide (s.ppu.scanline = -1)
  let s := s.onlyIf (preRender && cycle == 1) (·.onPpu Ppu.clearStatus)
  let s := s.onlyIf (inFetchWindow cycle) fun s => (s.onPpu Ppu.shiftBg).subStep
  let s := s.onlyIf (cycle == 256) (·.onPpu Ppu.incY)
  let s := s.onlyIf (cycle == 257) fun s => (s.onPpu Ppu.loadShifters).onPpu Ppu.transferX
  let s := s.onlyIf (cycle == 338 || cycle == 340) State.fetchNt
  s.onlyIf (preRender && decide (280 ≤ cycle) && decide (cycle ≤ 304)) (·.onPpu Ppu.transferY)

/-- The two bits that the shifters select for the pixel and for the palette (R425); with the background
disabled both are 0 (D23). -/
def Ppu.pixelAddr (p : Ppu) : PpuAddr :=
  let k := 15 - p.fineX.toNat
  let bit (n : Nat) (shifter : BitVec 16) : PpuAddr := if p.showBg && shifter.getLsbD k then 1#14 <<< n else 0
  0x3F00 + (bit 3 p.shAttHi ||| bit 2 p.shAttLo) + (bit 1 p.shPatHi ||| bit 0 p.shPatLo)

/-- The index into `frame` of a pixel (R45, R425): row `scanline`, column `cycle - 1`. -/
def Ppu.frameIndex (p : Ppu) : Nat := p.scanline.toNat * 256 + (p.cycle - 1)

/-- `EmitPixel()` of R425. -/
def State.emitPixel (s : State) : State :=
  s.setPpu { s.ppu with frame := s.ppu.frame.write s.ppu.frameIndex (s.ppuRead s.ppu.pixelAddr) }

/-- `AdvanceCounters()` of R396. -/
def Ppu.advanceCounters (p : Ppu) : Ppu :=
  if p.cycle + 1 = 341 then
    if p.scanline + 1 = 261 then { p with cycle := 0, scanline := -1, frameComplete := true }
    else { p with cycle := 0, scanline := p.scanline + 1 }
  else { p with cycle := p.cycle + 1 }

/-- Scanlines -1 to 239, pre-render and visible (R397). -/
def Ppu.onRenderLine (p : Ppu) : Bool := decide (-1 ≤ p.scanline) && decide (p.scanline ≤ 239)

/-- The cycles that emit a pixel (R395). -/
def Ppu.onVisiblePixel (p : Ppu) : Bool :=
  decide (0 ≤ p.scanline) && decide (p.scanline ≤ 239) && decide (1 ≤ p.cycle) && decide (p.cycle ≤ 256)

/-- `PpuClock()` of R395. -/
def State.ppuClock (s : State) : State :=
  let s := s.onlyIf s.ppu.onRenderLine State.scanlineWork
  let s := s.onlyIf (decide (s.ppu.scanline = 241) && s.ppu.cycle == 1) (·.onPpu Ppu.vblankEntry)
  let s := s.onlyIf s.ppu.onVisiblePixel State.emitPixel
  s.onPpu Ppu.advanceCounters

/-- The colour index of a pixel (R430). -/
def Ppu.pixel (p : Ppu) (row column : Nat) : BitVec 6 := (p.frame.read (row * 256 + column)).setWidth 6

/-- The colour the host shows for a pixel, `PALETTE_RGB[frame[y][x]]` (R430). -/
def Ppu.pixelRgb (p : Ppu) (row column : Nat) : Rgb := Config.paletteRgb (p.pixel row column)

end Sys2Proof.Machine
end

