-- ==== Sys2Proof/Machine/Clock.lean ====
section
/-! DEFINITION. The CPU clock (R160), the interrupt arbiter (R341, R360) and the system tick (R341). -/

namespace Sys2Proof.Machine

/-- `CpuClock()` of R160: with no clocks left one whole instruction executes; `cyc` counts down on every
call, the executing one included (R167). -/
def State.cpuClock (s : State) : Outcome :=
  if s.cpu.cyc = 0 then
    match exec s.fetchInstr.instr s.fetchInstr.state with
    | .next t => .next t.countDown
    | .fault r => .fault r
    | .refused r => .refused r
  else .next s.countDown

/-- The NMI half of the arbiter: a request is cleared and taken (R341, R567). -/
def State.serviceNmi (s : State) : State :=
  if s.ppu.nmiPending then (s.setPpu { s.ppu with nmiPending := false }).raiseNmi else s

/-- The IRQ half: the mapper's request is cleared, then taken unless masked (R341, R568). -/
def State.serviceIrq (s : State) : State :=
  if s.cart.irqPending then (s.setCart s.cart.irqClear).raiseIrq else s

/-- The interrupt arbiter: NMI first (R360, R570), once a tick (R565). -/
def State.arbiter (s : State) : State := s.serviceNmi.serviceIrq

/-- The PPU step and then the APU step of a tick (R341, R344). -/
def State.deviceClock (s : State) : State :=
  let t := s.ppuClock
  t.setApu t.apu.tick

/-- The CPU's part of a tick: on a CPU slot a DMA sub-step or a CPU clock (R341, R342). -/
def State.cpuPart (s : State) : Outcome :=
  if s.clock % 3 = 0 then
    if s.dma.enable then .next s.dmaStep else s.cpuClock
  else .next s

/-- The end of a tick: the arbiter, then the count (R341, R345). -/
def State.endTick (s : State) : State :=
  let t := s.arbiter
  t.setClock (t.clock + 1)

/-- `Tick()` of R341. -/
def State.tick (s : State) : Outcome :=
  match s.deviceClock.cpuPart with
  | .next t => .next t.endTick
  | .fault r => .fault r
  | .refused r => .refused r

end Sys2Proof.Machine
end

