-- ==== Sys2Proof/Machine/HostActions.lean ====
section
/-! DEFINITION. What the host does between ticks beside `Reset()` and `Tick()` (R370). -/

namespace Sys2Proof.Machine

/-- New controller snapshots (R365, R370). -/
def hostSetControllers (s : State) (c0 c1 : Byte) : State := (s.setController0 c0).setController1 c1

/-- The host has read the frame and clears the flag (R370, R430). -/
def hostClearFrame (s : State) : State := s.setPpu { s.ppu with frameComplete := false }

/-- A machine with a cartridge and launch parameters, reset (R600): power-on is the first reset applied to
the given contents of the other memories. `ILLEGAL_CYCLES` must be at least 1 (R7, R315). -/
def hostLaunch (s : State) (c : Cartridge) (p : Params) : Option State :=
  if p.illegalCycles = 0 then none else some (hostReset { s.setCart c with params := p })

end Sys2Proof.Machine
end

