-- ==== Sys2Proof/Machine/Step.lean ====
section
/-! DEFINITION. One step of the machine is one system tick (R340, R11; log entry 7). -/

namespace Sys2Proof.Machine

/-- The step: `Tick()`. -/
def step (s : State) : Host.Outcome State Fault Refusal := s.tick

/-- `s` with the `nbits` low bits of `w` as the bytes of the instruction that the next step fetches. -/
def State.withFetchWord (s : State) (nbits w : Nat) : State := s.placeWord nbits w

end Sys2Proof.Machine
end

