-- ==== Sys2Proof/Machine/Rows.lean ====
section
/-! DEFINITION. The instruction cycle of R160 read from the opcode table: the operand bytes of an instruction,
the effective address its addressing mode gives (step 3) and the operand it fetches (R164). `exec` does not
use these; statements about whole families are written with them. -/

namespace Sys2Proof.Machine

/-- The first operand byte, `b1` of R132. -/
def operandByte (i : Instr) : Byte := (encode i).getD 1 0x00

/-- The two operand bytes as a word, `b2 ++ b1` of R132. -/
def operandWord (i : Instr) : Word := wordOf ((encode i).getD 1 0x00) ((encode i).getD 2 0x00)

/-- `AddrMode(mode)` of R160 (R170 to R181), `PC` already past the operand bytes. IMP has no effective
address: its `ea` is that of IMM, the byte before `PC`, and nothing uses it. -/
def State.locate (s : State) (i : Instr) : Located :=
  match i.mode with
  | .imp | .imm => { ea := s.cpu.pc - 1, crossed := false, state := s }
  | .zp0 => zp0 s (operandByte i)
  | .zpx => zpx s (operandByte i)
  | .zpy => zpy s (operandByte i)
  | .rel => { ea := relTarget s (operandByte i), crossed := false, state := s }
  | .abs => absolute s (operandWord i)
  | .abx => abx s (operandWord i)
  | .aby => aby s (operandWord i)
  | .ind => { ea := (indirect s (operandWord i)).value, crossed := false
              state := (indirect s (operandWord i)).state }
  | .izx => izx s (operandByte i)
  | .izy => izy s (operandByte i)

/-- `Fetch(mode, ea)` of R164: `A` for IMP, the operand byte itself for IMM (R171), one bus read otherwise. -/
def State.operand (s : State) (i : Instr) : Fetched :=
  match i.mode with
  | .imp => { value := s.cpu.a, crossed := false, state := s }
  | .imm => fetchImm s (operandByte i)
  | .zp0 | .zpx | .zpy | .rel | .abs | .abx | .aby | .ind | .izx | .izy => (s.locate i).fetch

/-- The condition a branch tests (R281 to R288); `false` for every other instruction. -/
def State.taken (s : State) (i : Instr) : Bool :=
  match i.mnemonic with
  | .bcc => !s.flag .c
  | .bcs => s.flag .c
  | .beq => s.flag .z
  | .bne => !s.flag .z
  | .bpl => !s.flag .n
  | .bmi => s.flag .n
  | .bvc => !s.flag .v
  | .bvs => s.flag .v
  | .lda | .ldx | .ldy | .sta | .stx | .sty | .tax | .tay | .txa | .tya | .tsx | .txs | .adc | .sbc
  | .and | .ora | .eor | .bit | .cmp | .cpx | .cpy | .inc | .dec | .inx | .iny | .dex | .dey | .asl
  | .lsr | .rol | .ror | .jmp | .jsr | .rts | .pha | .php | .pla | .plp | .clc | .sec | .cli | .sei
  | .clv | .cld | .sed | .nop | .brk | .rti | .ill => false

/-- Where an instruction stores: the address of its memory operand, or the stack addresses it pushes to; none
for an instruction or a form that stores nothing. -/
def State.storedAt (s : State) (i : Instr) : List Word :=
  match i.mnemonic with
  | .sta | .stx | .sty | .inc | .dec => [(s.locate i).ea]
  | .asl | .lsr | .rol | .ror => if i.mode = .imp then [] else [(s.locate i).ea]
  | .pha | .php => [stackAddr s.cpu.s]
  | .jsr => [stackAddr s.cpu.s, stackAddr (s.cpu.s - 1)]
  | .brk => [stackAddr s.cpu.s, stackAddr (s.cpu.s - 1), stackAddr (s.cpu.s - 2)]
  | .lda | .ldx | .ldy | .tax | .tay | .txa | .tya | .tsx | .txs | .adc | .sbc | .and | .ora | .eor
  | .bit | .cmp | .cpx | .cpy | .inx | .iny | .dex | .dey | .bcc | .bcs | .beq | .bne | .bpl | .bmi
  | .bvc | .bvs | .jmp | .rts | .pla | .plp | .clc | .sec | .cli | .sei | .clv | .cld | .sed | .nop
  | .rti | .ill => []

/-- The flags an instruction writes: the third column of R29. -/
def flagsWritten : Mnemonic → List Flag
  | .lda | .pla | .ldx | .ldy | .tax | .tay | .txa | .tya | .tsx | .and | .ora | .eor | .inc | .dec
  | .inx | .dex | .iny | .dey => [.z, .n]
  | .adc | .sbc => [.c, .z, .v, .n]
  | .bit => [.z, .v, .n]
  | .cmp | .cpx | .cpy | .asl | .lsr | .rol | .ror => [.c, .z, .n]
  | .plp | .rti => [.c, .z, .i, .d, .v, .n]
  | .clc | .sec => [.c]
  | .cli | .sei | .brk => [.i]
  | .cld | .sed => [.d]
  | .clv => [.v]
  | .sta | .stx | .sty | .txs | .bcc | .bcs | .beq | .bne | .bpl | .bmi | .bvc | .bvs | .jmp | .jsr
  | .rts | .pha | .php | .nop | .ill => []

/-- The documented rows of a mnemonic, R135: format, opcode byte, base cycles. -/
def documentedRows : Mnemonic → List (Mode × Byte × Nat)
  | .adc => [(.imm, 0x69, 2), (.zp0, 0x65, 3), (.zpx, 0x75, 4), (.abs, 0x6D, 4), (.abx, 0x7D, 4),
     (.aby, 0x79, 4), (.izx, 0x61, 6), (.izy, 0x71, 5)]
  | .and => [(.imm, 0x29, 2), (.zp0, 0x25, 3), (.zpx, 0x35, 4), (.abs, 0x2D, 4), (.abx, 0x3D, 4),
     (.aby, 0x39, 4), (.izx, 0x21, 6), (.izy, 0x31, 5)]
  | .asl => [(.imp, 0x0A, 2), (.zp0, 0x06, 5), (.zpx, 0x16, 6), (.abs, 0x0E, 6), (.abx, 0x1E, 7)]
  | .bcc => [(.rel, 0x90, 2)]
  | .bcs => [(.rel, 0xB0, 2)]
  | .beq => [(.rel, 0xF0, 2)]
  | .bit => [(.zp0, 0x24, 3), (.abs, 0x2C, 4)]
  | .bmi => [(.rel, 0x30, 2)]
  | .bne => [(.rel, 0xD0, 2)]
  | .bpl => [(.rel, 0x10, 2)]
  | .brk => [(.imp, 0x00, 7)]
  | .bvc => [(.rel, 0x50, 2)]
  | .bvs => [(.rel, 0x70, 2)]
  | .clc => [(.imp, 0x18, 2)]
  | .cld => [(.imp, 0xD8, 2)]
  | .cli => [(.imp, 0x58, 2)]
  | .clv => [(.imp, 0xB8, 2)]
  | .cmp => [(.imm, 0xC9, 2), (.zp0, 0xC5, 3), (.zpx, 0xD5, 4), (.abs, 0xCD, 4), (.abx, 0xDD, 4),
     (.aby, 0xD9, 4), (.izx, 0xC1, 6), (.izy, 0xD1, 5)]
  | .cpx => [(.imm, 0xE0, 2), (.zp0, 0xE4, 3), (.abs, 0xEC, 4)]
  | .cpy => [(.imm, 0xC0, 2), (.zp0, 0xC4, 3), (.abs, 0xCC, 4)]
  | .dec => [(.zp0, 0xC6, 5), (.zpx, 0xD6, 6), (.abs, 0xCE, 6), (.abx, 0xDE, 7)]
  | .dex => [(.imp, 0xCA, 2)]
  | .dey => [(.imp, 0x88, 2)]
  | .eor => [(.imm, 0x49, 2), (.zp0, 0x45, 3), (.zpx, 0x55, 4), (.abs, 0x4D, 4), (.abx, 0x5D, 4),
     (.aby, 0x59, 4), (.izx, 0x41, 6), (.izy, 0x51, 5)]
  | .inc => [(.zp0, 0xE6, 5), (.zpx, 0xF6, 6), (.abs, 0xEE, 6), (.abx, 0xFE, 7)]
  | .inx => [(.imp, 0xE8, 2)]
  | .iny => [(.imp, 0xC8, 2)]
  | .jmp => [(.abs, 0x4C, 3), (.ind, 0x6C, 5)]
  | .jsr => [(.abs, 0x20, 6)]
  | .lda => [(.imm, 0xA9, 2), (.zp0, 0xA5, 3), (.zpx, 0xB5, 4), (.abs, 0xAD, 4), (.abx, 0xBD, 4),
     (.aby, 0xB9, 4), (.izx, 0xA1, 6), (.izy, 0xB1, 5)]
  | .ldx => [(.imm, 0xA2, 2), (.zp0, 0xA6, 3), (.zpy, 0xB6, 4), (.abs, 0xAE, 4), (.aby, 0xBE, 4)]
  | .ldy => [(.imm, 0xA0, 2), (.zp0, 0xA4, 3), (.zpx, 0xB4, 4), (.abs, 0xAC, 4), (.abx, 0xBC, 4)]
  | .lsr => [(.imp, 0x4A, 2), (.zp0, 0x46, 5), (.zpx, 0x56, 6), (.abs, 0x4E, 6), (.abx, 0x5E, 7)]
  | .nop => [(.imp, 0xEA, 2)]
  | .ora => [(.imm, 0x09, 2), (.zp0, 0x05, 3), (.zpx, 0x15, 4), (.abs, 0x0D, 4), (.abx, 0x1D, 4),
     (.aby, 0x19, 4), (.izx, 0x01, 6), (.izy, 0x11, 5)]
  | .pha => [(.imp, 0x48, 3)]
  | .php => [(.imp, 0x08, 3)]
  | .pla => [(.imp, 0x68, 4)]
  | .plp => [(.imp, 0x28, 4)]
  | .rol => [(.imp, 0x2A, 2), (.zp0, 0x26, 5), (.zpx, 0x36, 6), (.abs, 0x2E, 6), (.abx, 0x3E, 7)]
  | .ror => [(.imp, 0x6A, 2), (.zp0, 0x66, 5), (.zpx, 0x76, 6), (.abs, 0x6E, 6), (.abx, 0x7E, 7)]
  | .rti => [(.imp, 0x40, 6)]
  | .rts => [(.imp, 0x60, 6)]
  | .sbc => [(.imm, 0xE9, 2), (.zp0, 0xE5, 3), (.zpx, 0xF5, 4), (.abs, 0xED, 4), (.abx, 0xFD, 4),
     (.aby, 0xF9, 4), (.izx, 0xE1, 6), (.izy, 0xF1, 5)]
  | .sec => [(.imp, 0x38, 2)]
  | .sed => [(.imp, 0xF8, 2)]
  | .sei => [(.imp, 0x78, 2)]
  | .sta => [(.zp0, 0x85, 3), (.zpx, 0x95, 4), (.abs, 0x8D, 4), (.abx, 0x9D, 5), (.aby, 0x99, 5),
     (.izx, 0x81, 6), (.izy, 0x91, 6)]
  | .stx => [(.zp0, 0x86, 3), (.zpy, 0x96, 4), (.abs, 0x8E, 4)]
  | .sty => [(.zp0, 0x84, 3), (.zpx, 0x94, 4), (.abs, 0x8C, 4)]
  | .tax => [(.imp, 0xAA, 2)]
  | .tay => [(.imp, 0xA8, 2)]
  | .tsx => [(.imp, 0xBA, 2)]
  | .txa => [(.imp, 0x8A, 2)]
  | .txs => [(.imp, 0x9A, 2)]
  | .tya => [(.imp, 0x98, 2)]
  | .ill => []

end Sys2Proof.Machine
end

