-- ==== Sys2Proof/Safety.lean ====
section
/-! DEFINITION. What a safe run is, and the words that statements about runs are written in: the parts of the
machine an operation may touch, and the invariants that every step keeps. -/

namespace Sys2Proof.Machine

/-- `n` ticks from `s` all answer a next state: no fault and no refusal (R161, R560). -/
def State.SafeFor (s : State) (n : Nat) : Prop := ∃ t, Sys2Proof.core.run n s = .next t

/-- Two machines that differ in CPU registers (and `cyc`) only. -/
def SameOutsideCpu (s t : State) : Prop := { t with cpu := s.cpu } = s

/-- Two machines that differ in CPU registers, RAM and what every bus write changes (the open-bus latch and the
model's own count of writes, log entry 23) only. -/
def SameOutsideRam (s t : State) : Prop :=
  { t with cpu := s.cpu, ram := s.ram, openBus := s.openBus, writes := s.writes } = s

/-- The CPU registers of a machine but for `P`: `A`, `X`, `Y`, `S`, `PC`, `cyc`. -/
def CpuIs (t : State) (a x y sp : Byte) (pc : Word) (cyc : Nat) : Prop :=
  t.cpu.a = a ∧ t.cpu.x = x ∧ t.cpu.y = y ∧ t.cpu.s = sp ∧ t.cpu.pc = pc ∧ t.cpu.cyc = cyc

/-- Two machines whose memories hold the same bytes: RAM, PRG ROM, PRG-RAM, pattern memory, nametables,
palette, OAM and frame, as arrays and as the CPU sees them. -/
def SameMemory (s t : State) : Prop :=
  (∀ a, t.peek a = s.peek a) ∧ t.ram = s.ram ∧ t.cart = s.cart ∧ t.ppu.nt0 = s.ppu.nt0 ∧
  t.ppu.nt1 = s.ppu.nt1 ∧ t.ppu.pal = s.ppu.pal ∧ t.ppu.oam = s.ppu.oam ∧ t.ppu.frame = s.ppu.frame

/-- Two CPU addresses that reach the same byte: the same address, or the same RAM byte through its mirrors
(R86). -/
def SameCell (a b : Word) : Prop := a = b ∨ (a ≤ 0x1FFF ∧ b ≤ 0x1FFF ∧ ramIndex a = ramIndex b)

/-- Every flag but the listed ones is the same. -/
def FlagsKeptBut (written : List Flag) (s t : State) : Prop := ∀ f, f ∉ written → t.flag f = s.flag f

/-- Z and N describe the byte `v` (R30). -/
def ZnOf (t : State) (v : Byte) : Prop := t.flag .z = decide (v = 0) ∧ t.flag .n = decide (0x80 ≤ v.toNat)

/-- The result of a shift or rotate of `m` by one bit, with the carry `c` in, and the bit shifted out, as
numbers (R271 to R274): ASL, LSR, ROL, and ROR for every other mnemonic. -/
def shiftNumbers (mn : Mnemonic) (m c : Nat) : Nat × Bool :=
  if mn = .asl then (2 * m % 256, decide (128 ≤ m))
  else if mn = .lsr then (m / 2, decide (m % 2 = 1))
  else if mn = .rol then ((2 * m + c) % 256, decide (128 ≤ m))
  else (c * 128 + m / 2, decide (m % 2 = 1))

/-- The nametable an address decodes to, in numbers (R114): `q` is its 1 KiB quadrant. -/
def ntTableNumber (l : Layout) (a : PpuAddr) : Nat :=
  match l with
  | .vertical => a.toNat % 4096 / 1024 % 2
  | .horizontal => a.toNat % 4096 / 1024 / 2
  | .oneScreenLow => 0
  | .oneScreenHigh => 1

/-- The fetch phase of a PPU clock step, `(cycle - 1) mod 8` in the two fetch windows of a pre-render or visible
line; none elsewhere (R395, R402). -/
def fetchPhase (scanline : Int) (cycle : Nat) : Option Nat :=
  if (-1 ≤ scanline ∧ scanline ≤ 239) ∧ ((2 ≤ cycle ∧ cycle ≤ 257) ∨ (321 ≤ cycle ∧ cycle ≤ 337)) then
    some ((cycle - 1) % 8)
  else none

/-- The rows of a mnemonic: formats and opcode bytes (the Operands and Encoding lines of a rule), for the
instructions and for the decoder. -/
def RowsOf (m : Mnemonic) (rows : List (Mode × Byte)) : Prop :=
  (∀ i : Instr, i.mnemonic = m → (i.mode, i.opcode) ∈ rows) ∧
  ∀ r ∈ rows, ∀ b1 b2, (decodeRow r.2 b1 b2).mnemonic = m ∧ (decodeRow r.2 b1 b2).mode = r.1

/-- The canonical form of pattern memory (R49, R529). -/
def Pattern.wf : Pattern → Bool
  | .rom banks data => decide (0 < banks) && data.wf (banks * 8192)
  | .ram data => data.wf 8192

/-- The canonical form of a mapper's memory (R50). -/
def Mapper.wf : Mapper → Bool
  | .mapper0 => true
  | .mapper1 r => r.prgRam.wf 8192

/-- Every memory is in canonical form and inside its size (R34, R44, R45, R49, R50). -/
def State.memoriesWf (s : State) : Bool :=
  s.ram.wf 2048 && s.ppu.nt0.wf 1024 && s.ppu.nt1.wf 1024 && s.ppu.pal.wf 32 && s.ppu.oam.wf 256 &&
  s.ppu.frame.wf 61440 && decide (0 < s.cart.prgBanks) && s.cart.prg.wf s.cart.prgSize &&
  s.cart.pattern.wf && s.cart.mapper.wf

/-- R27: bit 5 of `P` is 1 and bit 4 is 0. -/
def State.statusWf (s : State) : Bool := s.flag .u && !s.flag .b

/-- R40, R46, R50, R31: the counters are in their ranges, and `apu_clock` equals `system_clock_count` (R470). -/
def State.countersWf (s : State) : Bool :=
  decide (-1 ≤ s.ppu.scanline) && decide (s.ppu.scanline ≤ 260) && decide (s.ppu.cycle ≤ 340) &&
  decide (s.apu.seqCount < 14916) && decide (s.apu.clock = s.clock) &&
  (match s.cart.mapper with
   | .mapper0 => true
   | .mapper1 r => decide (r.count ≤ 4)) &&
  decide (s.cpu.cyc ≤ max 8 s.params.illegalCycles)

/-- What no step can bring about: a request that outlives its tick (R562), a mapper's request (R527), a sprite
status bit (R435), an empty noise register (R490), a silenced channel with a length (R465), an idle DMA
controller that is not waiting at index 0 (R355). -/
def State.unitsWf (s : State) : Bool :=
  !s.ppu.nmiPending && !s.cart.irqState && !s.ppu.sprite0 && !s.ppu.overflow && (s.apu.noise.lfsr != 0) &&
  (s.apu.pulse1.enable || s.apu.pulse1.length == 0) && (s.apu.pulse2.enable || s.apu.pulse2.length == 0) &&
  (s.apu.noise.enable || s.apu.noise.length == 0) &&
  (s.dma.enable || (s.dma.wait && s.dma.index == 0))

/-- Every pixel of the frame is a 6-bit colour index (R45). -/
def State.frameWf (s : State) : Bool := s.ppu.frame.all fun c => decide (c.2.toNat < 64)

/-- The invariant of the machine. -/
structure State.Inv (s : State) : Prop where
  memories : s.memoriesWf = true
  status : s.statusWf = true
  counters : s.countersWf = true
  units : s.unitsWf = true
  frame : s.frameWf = true

end Sys2Proof.Machine
end

