-- ==== Sys2Proof/Certificates/Slice0/Obligations.lean ====
section
/-! DEFINITION. What is claimed of the machine, one statement per definition, in the order of OBLIGATIONS.json.
Every free byte (log entries 6 and 23) is an opaque constant, so a statement that mentions one holds for every value
of it; the launch parameters of R7 stand in `State.params`, so a statement about every state holds for every
value of them. -/

open Sys2Proof Sys2Proof.Machine

/-! ### Encoding -/

/-- Decoding what the encoder writes gives the instruction back, with every operand at every value, and
leaves the bytes after it (R130 to R133). -/
def Obligations.DecodeOfEncode : Prop :=
  ∀ (i : Instr) (rest : List Byte), i.wellFormed = true → decode (encode i ++ rest) = .ok (i, rest)

/-- Whatever decodes is a well-formed instruction, and the bytes it was read from are its encoding: no two
instructions share a word, and no bit is dropped (R130 to R133). -/
def Obligations.EncodeOfDecode : Prop :=
  ∀ (bytes : List Byte) (i : Instr) (rest : List Byte), decode bytes = .ok (i, rest) →
    i.wellFormed = true ∧ encode i ++ rest = bytes

/-- R161: every byte value decodes, every instruction executes, and the CPU clock has one outcome, the next
state; so no run of ticks ever stops. -/
def Obligations.DecodingAndExecutionAreTotal : Prop :=
  (∀ (op b1 b2 : Byte) (rest : List Byte), ∃ i tail,
    decode (op :: b1 :: b2 :: rest) = .ok (i, tail) ∧ i.opcode = op) ∧
  (∀ (i : Instr) (s : State), ∃ t, exec i s = .next t) ∧
  (∀ s : State, ∃ t, s.cpuClock = .next t) ∧
  (∀ (s : State) (n : Nat), s.SafeFor n)

/-- R135 and R141: the 151 documented opcodes, with mnemonic, format and base cycles, for the instructions and
for the decoder, and the 105 placeholder bytes; and words written out from the encodings of the spec decode to
the instructions they stand for (R145). The placeholder's length is the spec's decision D7 (R140). -/
def Obligations.OpcodeTable : Prop :=
  (∀ (i : Instr) (n : Nat), i.mnemonic ≠ .ill →
    (i.mode, i.opcode, i.baseCycles n) ∈ documentedRows i.mnemonic) ∧
  (∀ (m : Mnemonic), ∀ r ∈ documentedRows m, ∀ (b1 b2 : Byte) (n : Nat),
    (decodeRow r.2.1 b1 b2).mnemonic = m ∧ (decodeRow r.2.1 b1 b2).mode = r.1 ∧
    (decodeRow r.2.1 b1 b2).baseCycles n = r.2.2) ∧
  illegalOpcodes.length = 105 ∧
  (∀ op b1 b2 : Byte, decodeRow op b1 b2 = .ill op ↔ op ∈ illegalOpcodes) ∧
  decode [0xA9, 0x10] = .ok (.ldaImm 0x10, []) ∧
  decode [0xAD, 0x34, 0x12] = .ok (.ldaAbs 0x1234, []) ∧
  decode [0x96, 0xF0, 0xAA] = .ok (.stxZpy 0xF0, [0xAA]) ∧
  decode [0x71, 0x86] = .ok (.adcIzy 0x86, []) ∧
  decode [0x0A] = .ok (.aslImp, []) ∧
  decode [0xD0, 0xFB] = .ok (.bne 0xFB, []) ∧
  decode [0x6C, 0xFF, 0x30] = .ok (.jmpInd 0x30FF, []) ∧
  decode [0x00, 0x12] = .ok (.brk, [0x12]) ∧
  decode [0xFF, 0x12, 0x34] = .ok (.ill 0xFF, [0x12, 0x34]) ∧
  decode [0x20, 0x00] = .error (.truncated 0x20)

/-! ### The step -/

/-- A tick that starts at an instruction boundary runs the instruction whose bytes stand at `PC`: the PPU and
APU step first, `PC` moves past the bytes, `exec` runs, `cyc` counts its first clock, the arbiter ends the
tick (R160, R341, R373). A tick that is not a CPU slot steps only the PPU, the APU and the arbiter; on a CPU slot
a running transfer takes the CPU's place; otherwise an instruction's remaining clocks count down. The tick count
advances by one (R341, R342, R345, R357). The reading of a boundary is derived in the spec too (R373); the
width of the count is the spec's decision D15, and that the executing clock counts its decision D4 (R160). -/
def Obligations.StepRunsDecodedInstruction : Prop :=
  (∀ (s : State) (bs : List Byte) (i : Instr),
      s.clock % 3 = 0 → s.dma.enable = false → s.cpu.cyc = 0 →
      (∀ (k : Nat) (h : k < bs.length), s.peek (s.cpu.pc + BitVec.ofNat 16 k) = some bs[k]) →
      decode bs = .ok (i, []) →
      ∃ t, exec i (s.deviceClock.setPc (s.cpu.pc + BitVec.ofNat 16 i.length)) = .next t ∧
        step s = .next (t.setCyc (t.cpu.cyc - 1)).endTick) ∧
  (∀ s : State, s.clock % 3 ≠ 0 → step s = .next s.deviceClock.endTick) ∧
  (∀ s : State, s.clock % 3 = 0 → s.dma.enable = true → step s = .next s.deviceClock.dmaStep.endTick) ∧
  (∀ s : State, s.clock % 3 = 0 → s.dma.enable = false → s.cpu.cyc ≠ 0 →
    step s = .next (s.deviceClock.setCyc (s.cpu.cyc - 1)).endTick) ∧
  (∀ s t : State, step s = .next t → t.clock = s.clock + 1 ∧ t.apu.clock = s.apu.clock + 1)

/-! ### Loads, stores, transfers -/

/-- R201 to R203: LDA, LDX and LDY, in each of their formats, complete with the fetched operand in the
register, Z and N of it, and the page-cross cycle; nothing but the CPU changes after the operand is read. -/
def Obligations.LoadResults : Prop :=
  RowsOf .lda [(.imm, 0xA9), (.zp0, 0xA5), (.zpx, 0xB5), (.abs, 0xAD), (.abx, 0xBD), (.aby, 0xB9),
    (.izx, 0xA1), (.izy, 0xB1)] ∧
  RowsOf .ldx [(.imm, 0xA2), (.zp0, 0xA6), (.zpy, 0xB6), (.abs, 0xAE), (.aby, 0xBE)] ∧
  RowsOf .ldy [(.imm, 0xA0), (.zp0, 0xA4), (.zpx, 0xB4), (.abs, 0xAC), (.abx, 0xBC)] ∧
  ∀ (i : Instr) (s : State), i.mnemonic ∈ [Mnemonic.lda, .ldx, .ldy] →
    ∃ t, exec i s = .next t ∧
      CpuIs t (if i.mnemonic = .lda then (s.operand i).value else s.cpu.a)
        (if i.mnemonic = .ldx then (s.operand i).value else s.cpu.x)
        (if i.mnemonic = .ldy then (s.operand i).value else s.cpu.y) s.cpu.s s.cpu.pc
        (i.baseCycles s.params.illegalCycles + (s.operand i).crossed.toNat) ∧
      ZnOf t (s.operand i).value ∧ FlagsKeptBut [.z, .n] s t ∧ SameOutsideCpu (s.operand i).state t

/-- R204 to R206: STA, STX and STY complete with one bus write of the register at the effective address, no
flag, no page-cross cycle. -/
def Obligations.StoreResults : Prop :=
  RowsOf .sta [(.zp0, 0x85), (.zpx, 0x95), (.abs, 0x8D), (.abx, 0x9D), (.aby, 0x99), (.izx, 0x81),
    (.izy, 0x91)] ∧
  RowsOf .stx [(.zp0, 0x86), (.zpy, 0x96), (.abs, 0x8E)] ∧
  RowsOf .sty [(.zp0, 0x84), (.zpx, 0x94), (.abs, 0x8C)] ∧
  ∀ (i : Instr) (s : State), i.mnemonic ∈ [Mnemonic.sta, .stx, .sty] →
    ∃ t, exec i s = .next t ∧
      CpuIs t s.cpu.a s.cpu.x s.cpu.y s.cpu.s s.cpu.pc (i.baseCycles s.params.illegalCycles) ∧
      t.cpu.p = s.cpu.p ∧
      SameOutsideCpu (s.memWrite (s.locate i).ea
        (if i.mnemonic = .sta then s.cpu.a else if i.mnemonic = .stx then s.cpu.x else s.cpu.y)) t

/-- R207 to R212: the six transfers complete in 2 clocks with the source register copied; Z and N describe
it, but for TXS, which writes no flag. -/
def Obligations.TransferResults : Prop :=
  RowsOf .tax [(.imp, 0xAA)] ∧ RowsOf .tay [(.imp, 0xA8)] ∧ RowsOf .txa [(.imp, 0x8A)] ∧
  RowsOf .tya [(.imp, 0x98)] ∧ RowsOf .tsx [(.imp, 0xBA)] ∧ RowsOf .txs [(.imp, 0x9A)] ∧
  ∀ s : State,
    (∃ t, exec .tax s = .next t ∧ CpuIs t s.cpu.a s.cpu.a s.cpu.y s.cpu.s s.cpu.pc 2 ∧ ZnOf t s.cpu.a ∧
      FlagsKeptBut [.z, .n] s t ∧ SameOutsideCpu s t) ∧
    (∃ t, exec .tay s = .next t ∧ CpuIs t s.cpu.a s.cpu.x s.cpu.a s.cpu.s s.cpu.pc 2 ∧ ZnOf t s.cpu.a ∧
      FlagsKeptBut [.z, .n] s t ∧ SameOutsideCpu s t) ∧
    (∃ t, exec .txa s = .next t ∧ CpuIs t s.cpu.x s.cpu.x s.cpu.y s.cpu.s s.cpu.pc 2 ∧ ZnOf t s.cpu.x ∧
      FlagsKeptBut [.z, .n] s t ∧ SameOutsideCpu s t) ∧
    (∃ t, exec .tya s = .next t ∧ CpuIs t s.cpu.y s.cpu.x s.cpu.y s.cpu.s s.cpu.pc 2 ∧ ZnOf t s.cpu.y ∧
      FlagsKeptBut [.z, .n] s t ∧ SameOutsideCpu s t) ∧
    (∃ t, exec .tsx s = .next t ∧ CpuIs t s.cpu.a s.cpu.s s.cpu.y s.cpu.s s.cpu.pc 2 ∧ ZnOf t s.cpu.s ∧
      FlagsKeptBut [.z, .n] s t ∧ SameOutsideCpu s t) ∧
    (∃ t, exec .txs s = .next t ∧ CpuIs t s.cpu.a s.cpu.x s.cpu.y s.cpu.x s.cpu.pc 2 ∧
      t.cpu.p = s.cpu.p ∧ SameOutsideCpu s t)

/-! ### Arithmetic and logic -/

/-- R231: ADC in each format: the sum of accumulator, operand and carry; C above 0xFF; V by the formula, which
says that the signed sum leaves the range of a byte; Z and N of the byte; Decimal is not read. That
arithmetic is binary whatever Decimal holds is the spec's decision D8 (log entry 20). -/
def Obligations.AdcResult : Prop :=
  RowsOf .adc [(.imm, 0x69), (.zp0, 0x65), (.zpx, 0x75), (.abs, 0x6D), (.abx, 0x7D), (.aby, 0x79),
    (.izx, 0x61), (.izy, 0x71)] ∧
  ∀ (i : Instr) (s : State), i.mnemonic = .adc →
    ∃ (t : State) (r : Byte), exec i s = .next t ∧
      r.toNat = (s.cpu.a.toNat + (s.operand i).value.toNat + (s.flag .c).toNat) % 256 ∧
      CpuIs t r s.cpu.x s.cpu.y s.cpu.s s.cpu.pc
        (i.baseCycles s.params.illegalCycles + (s.operand i).crossed.toNat) ∧
      t.flag .c = decide (0xFF < s.cpu.a.toNat + (s.operand i).value.toNat + (s.flag .c).toNat) ∧
      t.flag .v = ((~~~(s.cpu.a ^^^ (s.operand i).value) &&& (s.cpu.a ^^^ r) &&& 0x80) != 0) ∧
      (t.flag .v = true ↔
        s.cpu.a.toInt + (s.operand i).value.toInt + (s.flag .c).toNat < -128 ∨
        127 < s.cpu.a.toInt + (s.operand i).value.toInt + (s.flag .c).toNat) ∧
      ZnOf t r ∧ FlagsKeptBut [.c, .z, .v, .n] s t ∧ SameOutsideCpu (s.operand i).state t

/-- R232: SBC in each format: accumulator minus operand minus borrow; C = no borrow; V by the formula, which
says that the signed difference leaves the range of a byte; Z and N of the byte; Decimal is not read. That
arithmetic is binary whatever Decimal holds is the spec's decision D8 (log entry 20). -/
def Obligations.SbcResult : Prop :=
  RowsOf .sbc [(.imm, 0xE9), (.zp0, 0xE5), (.zpx, 0xF5), (.abs, 0xED), (.abx, 0xFD), (.aby, 0xF9),
    (.izx, 0xE1), (.izy, 0xF1)] ∧
  ∀ (i : Instr) (s : State), i.mnemonic = .sbc →
    ∃ (t : State) (r : Byte), exec i s = .next t ∧
      (r.toNat : Int) =
        ((s.cpu.a.toNat : Int) - (s.operand i).value.toNat - (1 - (s.flag .c).toNat)) % 256 ∧
      CpuIs t r s.cpu.x s.cpu.y s.cpu.s s.cpu.pc
        (i.baseCycles s.params.illegalCycles + (s.operand i).crossed.toNat) ∧
      t.flag .c = decide ((s.operand i).value.toNat + (1 - (s.flag .c).toNat) ≤ s.cpu.a.toNat) ∧
      t.flag .v = (((r ^^^ s.cpu.a) &&& (r ^^^ ((s.operand i).value ^^^ 0xFF)) &&& 0x80) != 0) ∧
      (t.flag .v = true ↔
        s.cpu.a.toInt - (s.operand i).value.toInt - (1 - ((s.flag .c).toNat : Int)) < -128 ∨
        127 < s.cpu.a.toInt - (s.operand i).value.toInt - (1 - ((s.flag .c).toNat : Int))) ∧
      ZnOf t r ∧ FlagsKeptBut [.c, .z, .v, .n] s t ∧ SameOutsideCpu (s.operand i).state t

/-- R233 to R235: AND, ORA and EOR in each format. -/
def Obligations.LogicResults : Prop :=
  RowsOf .and [(.imm, 0x29), (.zp0, 0x25), (.zpx, 0x35), (.abs, 0x2D), (.abx, 0x3D), (.aby, 0x39),
    (.izx, 0x21), (.izy, 0x31)] ∧
  RowsOf .ora [(.imm, 0x09), (.zp0, 0x05), (.zpx, 0x15), (.abs, 0x0D), (.abx, 0x1D), (.aby, 0x19),
    (.izx, 0x01), (.izy, 0x11)] ∧
  RowsOf .eor [(.imm, 0x49), (.zp0, 0x45), (.zpx, 0x55), (.abs, 0x4D), (.abx, 0x5D), (.aby, 0x59),
    (.izx, 0x41), (.izy, 0x51)] ∧
  ∀ (i : Instr) (s : State), i.mnemonic ∈ [Mnemonic.and, .ora, .eor] →
    ∃ (t : State) (r : Byte), exec i s = .next t ∧
      (∀ k, r.getLsbD k =
        if i.mnemonic = .and then s.cpu.a.getLsbD k && (s.operand i).value.getLsbD k
        else if i.mnemonic = .ora then s.cpu.a.getLsbD k || (s.operand i).value.getLsbD k
        else s.cpu.a.getLsbD k ^^ (s.operand i).value.getLsbD k) ∧
      CpuIs t r s.cpu.x s.cpu.y s.cpu.s s.cpu.pc
        (i.baseCycles s.params.illegalCycles + (s.operand i).crossed.toNat) ∧
      ZnOf t r ∧ FlagsKeptBut [.z, .n] s t ∧ SameOutsideCpu (s.operand i).state t

/-- R236: BIT in both formats: Z from `A & m`, N and V from bits 7 and 6 of the operand, `A` unchanged. -/
def Obligations.BitResult : Prop :=
  RowsOf .bit [(.zp0, 0x24), (.abs, 0x2C)] ∧
  ∀ (i : Instr) (s : State), i.mnemonic = .bit →
    ∃ t, exec i s = .next t ∧
      CpuIs t s.cpu.a s.cpu.x s.cpu.y s.cpu.s s.cpu.pc (i.baseCycles s.params.illegalCycles) ∧
      t.flag .z = decide (s.cpu.a &&& (s.operand i).value = 0) ∧
      t.flag .n = (s.operand i).value.getLsbD 7 ∧ t.flag .v = (s.operand i).value.getLsbD 6 ∧
      FlagsKeptBut [.z, .v, .n] s t ∧ SameOutsideCpu (s.operand i).state t

/-- R237 to R239: CMP, CPX and CPY in each format: C = register at least the operand, unsigned; Z = equal; N =
bit 7 of the difference; no register changes. -/
def Obligations.CompareResults : Prop :=
  RowsOf .cmp [(.imm, 0xC9), (.zp0, 0xC5), (.zpx, 0xD5), (.abs, 0xCD), (.abx, 0xDD), (.aby, 0xD9),
    (.izx, 0xC1), (.izy, 0xD1)] ∧
  RowsOf .cpx [(.imm, 0xE0), (.zp0, 0xE4), (.abs, 0xEC)] ∧
  RowsOf .cpy [(.imm, 0xC0), (.zp0, 0xC4), (.abs, 0xCC)] ∧
  ∀ (i : Instr) (s : State) (r : Byte), i.mnemonic ∈ [Mnemonic.cmp, .cpx, .cpy] →
    r = (if i.mnemonic = .cmp then s.cpu.a else if i.mnemonic = .cpx then s.cpu.x else s.cpu.y) →
    ∃ t, exec i s = .next t ∧
      CpuIs t s.cpu.a s.cpu.x s.cpu.y s.cpu.s s.cpu.pc
        (i.baseCycles s.params.illegalCycles + (s.operand i).crossed.toNat) ∧
      t.flag .c = decide ((s.operand i).value.toNat ≤ r.toNat) ∧
      t.flag .z = decide (r = (s.operand i).value) ∧
      t.flag .n = decide (128 ≤ (r.toNat + 256 - (s.operand i).value.toNat) % 256) ∧
      FlagsKeptBut [.c, .z, .n] s t ∧ SameOutsideCpu (s.operand i).state t

/-- R240 to R245: INC and DEC read and write the effective address once; INX, INY, DEX and DEY change the
register; the value wraps modulo 256, Z and N describe it, C and V stay. -/
def Obligations.IncrementResults : Prop :=
  RowsOf .inc [(.zp0, 0xE6), (.zpx, 0xF6), (.abs, 0xEE), (.abx, 0xFE)] ∧
  RowsOf .dec [(.zp0, 0xC6), (.zpx, 0xD6), (.abs, 0xCE), (.abx, 0xDE)] ∧
  RowsOf .inx [(.imp, 0xE8)] ∧ RowsOf .iny [(.imp, 0xC8)] ∧ RowsOf .dex [(.imp, 0xCA)] ∧
  RowsOf .dey [(.imp, 0x88)] ∧
  (∀ (i : Instr) (s : State), i.mnemonic ∈ [Mnemonic.inc, .dec] →
    ∃ (t : State) (r : Byte), exec i s = .next t ∧
      r.toNat = ((s.operand i).value.toNat + (if i.mnemonic = .inc then 1 else 255)) % 256 ∧
      CpuIs t s.cpu.a s.cpu.x s.cpu.y s.cpu.s s.cpu.pc (i.baseCycles s.params.illegalCycles) ∧
      ZnOf t r ∧ FlagsKeptBut [.z, .n] s t ∧
      SameOutsideCpu ((s.operand i).state.memWrite (s.locate i).ea r) t) ∧
  ∀ s : State,
    (∃ (t : State) (r : Byte), exec .inx s = .next t ∧ r.toNat = (s.cpu.x.toNat + 1) % 256 ∧
      CpuIs t s.cpu.a r s.cpu.y s.cpu.s s.cpu.pc 2 ∧ ZnOf t r ∧ FlagsKeptBut [.z, .n] s t ∧
      SameOutsideCpu s t) ∧
    (∃ (t : State) (r : Byte), exec .iny s = .next t ∧ r.toNat = (s.cpu.y.toNat + 1) % 256 ∧
      CpuIs t s.cpu.a s.cpu.x r s.cpu.s s.cpu.pc 2 ∧ ZnOf t r ∧ FlagsKeptBut [.z, .n] s t ∧
      SameOutsideCpu s t) ∧
    (∃ (t : State) (r : Byte), exec .dex s = .next t ∧ r.toNat = (s.cpu.x.toNat + 255) % 256 ∧
      CpuIs t s.cpu.a r s.cpu.y s.cpu.s s.cpu.pc 2 ∧ ZnOf t r ∧ FlagsKeptBut [.z, .n] s t ∧
      SameOutsideCpu s t) ∧
    (∃ (t : State) (r : Byte), exec .dey s = .next t ∧ r.toNat = (s.cpu.y.toNat + 255) % 256 ∧
      CpuIs t s.cpu.a s.cpu.x r s.cpu.s s.cpu.pc 2 ∧ ZnOf t r ∧ FlagsKeptBut [.z, .n] s t ∧
      SameOutsideCpu s t)

/-- R270 to R274: ASL, LSR, ROL and ROR, on the accumulator and on memory: the bit shifted out is C, Z and N
describe the result, V stays; the memory forms read and write the effective address once. -/
def Obligations.ShiftResults : Prop :=
  RowsOf .asl [(.imp, 0x0A), (.zp0, 0x06), (.zpx, 0x16), (.abs, 0x0E), (.abx, 0x1E)] ∧
  RowsOf .lsr [(.imp, 0x4A), (.zp0, 0x46), (.zpx, 0x56), (.abs, 0x4E), (.abx, 0x5E)] ∧
  RowsOf .rol [(.imp, 0x2A), (.zp0, 0x26), (.zpx, 0x36), (.abs, 0x2E), (.abx, 0x3E)] ∧
  RowsOf .ror [(.imp, 0x6A), (.zp0, 0x66), (.zpx, 0x76), (.abs, 0x6E), (.abx, 0x7E)] ∧
  ∀ (i : Instr) (s : State), i.mnemonic ∈ [Mnemonic.asl, .lsr, .rol, .ror] →
    ∃ (t : State) (r : Byte), exec i s = .next t ∧
      r.toNat = (shiftNumbers i.mnemonic (s.operand i).value.toNat (s.flag .c).toNat).1 ∧
      t.flag .c = (shiftNumbers i.mnemonic (s.operand i).value.toNat (s.flag .c).toNat).2 ∧
      CpuIs t (if i.mode = .imp then r else s.cpu.a) s.cpu.x s.cpu.y s.cpu.s s.cpu.pc
        (i.baseCycles s.params.illegalCycles) ∧
      ZnOf t r ∧ FlagsKeptBut [.c, .z, .n] s t ∧
      SameOutsideCpu
        (if i.mode = .imp then s else (s.operand i).state.memWrite (s.locate i).ea r) t

/-! ### Branches, jumps, calls -/

/-- R280 to R288: the eight branches: taken exactly on the flag's value, to the next instruction's address plus
the signed offset modulo 65536, at 2, 3 or 4 clocks; no flag, no other register. -/
def Obligations.BranchResults : Prop :=
  RowsOf .bcc [(.rel, 0x90)] ∧ RowsOf .bcs [(.rel, 0xB0)] ∧ RowsOf .beq [(.rel, 0xF0)] ∧
  RowsOf .bne [(.rel, 0xD0)] ∧ RowsOf .bpl [(.rel, 0x10)] ∧ RowsOf .bmi [(.rel, 0x30)] ∧
  RowsOf .bvc [(.rel, 0x50)] ∧ RowsOf .bvs [(.rel, 0x70)] ∧
  ∀ (s : State) (b : Byte) (i : Instr) (cond : Bool),
    (i, cond) ∈ [(Instr.bcc b, !s.flag .c), (.bcs b, s.flag .c), (.beq b, s.flag .z),
      (.bne b, !s.flag .z), (.bpl b, !s.flag .n), (.bmi b, s.flag .n), (.bvc b, !s.flag .v),
      (.bvs b, s.flag .v)] →
    ∃ target : Word, (target.toNat : Int) = (s.cpu.pc.toNat + b.toInt) % 65536 ∧
      ∃ t, exec i s = .next t ∧
        CpuIs t s.cpu.a s.cpu.x s.cpu.y s.cpu.s (if cond then target else s.cpu.pc)
          (if cond then (if target.toNat / 256 = s.cpu.pc.toNat / 256 then 3 else 4) else 2) ∧
        t.cpu.p = s.cpu.p ∧ SameOutsideCpu s t

/-- R289 and R179: JMP. The indirect form reads the high byte of its target from the start of the same page
where the pointer's low byte is 0xFF. That the low byte is read first is the spec's decision D9 (log entry
14). -/
def Obligations.JumpResults : Prop :=
  RowsOf .jmp [(.abs, 0x4C), (.ind, 0x6C)] ∧
  (∀ (s : State) (w : Word), ∃ t, exec (.jmpAbs w) s = .next t ∧
    CpuIs t s.cpu.a s.cpu.x s.cpu.y s.cpu.s w 3 ∧ t.cpu.p = s.cpu.p ∧ SameOutsideCpu s t) ∧
  ∀ (s : State) (ptr high : Word) (lo hi : Reading),
    high.toNat = (if ptr.toNat % 256 = 255 then ptr.toNat - 255 else ptr.toNat + 1) →
    lo = s.memRead ptr → hi = lo.state.memRead high →
    ∃ t, exec (.jmpInd ptr) s = .next t ∧
      CpuIs t s.cpu.a s.cpu.x s.cpu.y s.cpu.s (wordOf lo.value hi.value) 5 ∧ t.cpu.p = s.cpu.p ∧
      SameOutsideCpu hi.state t

/-- R290 and R291: JSR pushes the address of its own last byte, high byte first, and jumps; RTS pulls an
address, low byte first, and continues one past it. So a subroutine that leaves the stack as it found it returns
to the instruction after its call, whatever it did to the other registers. -/
def Obligations.CallAndReturnResults : Prop :=
  RowsOf .jsr [(.abs, 0x20)] ∧ RowsOf .rts [(.imp, 0x60)] ∧
  (∀ (s : State) (w : Word), ∃ t, exec (.jsr w) s = .next t ∧
    CpuIs t s.cpu.a s.cpu.x s.cpu.y (s.cpu.s - 2) w 6 ∧ t.cpu.p = s.cpu.p ∧
    t.ram = (s.ram.write (256 + s.cpu.s.toNat) (highByte (s.cpu.pc - 1))).write
      (256 + (s.cpu.s - 1).toNat) (lowByte (s.cpu.pc - 1)) ∧
    t.openBus = lowByte (s.cpu.pc - 1) ∧ SameOutsideRam s t) ∧
  (∀ s : State, ∃ t, exec .rts s = .next t ∧
    CpuIs t s.cpu.a s.cpu.x s.cpu.y (s.cpu.s + 2)
      (wordOf (s.ram.read (256 + (s.cpu.s + 1).toNat)) (s.ram.read (256 + (s.cpu.s + 2).toNat)) + 1) 6 ∧
    t.cpu.p = s.cpu.p ∧ SameOutsideCpu s t) ∧
  ∀ (s t u : State) (w : Word), s.ram.wf 2048 = true → exec (.jsr w) s = .next t →
    u.ram = t.ram → u.cpu.s = t.cpu.s →
    ∃ v, exec .rts u = .next v ∧ v.cpu.pc = s.cpu.pc ∧ v.cpu.s = s.cpu.s

/-! ### Stack, flags, system -/

/-- R301 to R304: PHA and PHP push `A` and the status image with bits 4 and 5 set; PLA and PLP pull, PLA
with Z and N, PLP ignoring bits 4 and 5 of the byte. The stack pointer wraps in its page. That a pull cannot
set bit 4 is the spec's reading, decision D3 (R300, log entry 20). -/
def Obligations.StackResults : Prop :=
  RowsOf .pha [(.imp, 0x48)] ∧ RowsOf .php [(.imp, 0x08)] ∧ RowsOf .pla [(.imp, 0x68)] ∧
  RowsOf .plp [(.imp, 0x28)] ∧
  (∀ (s : State) (i : Instr) (v : Byte),
    (i, v) ∈ [(Instr.pha, s.cpu.a), (.php, s.cpu.p ||| 0x30)] →
    ∃ t, exec i s = .next t ∧ CpuIs t s.cpu.a s.cpu.x s.cpu.y (s.cpu.s - 1) s.cpu.pc 3 ∧
      t.cpu.p = s.cpu.p ∧ t.ram = s.ram.write (256 + s.cpu.s.toNat) v ∧ t.openBus = v ∧
      SameOutsideRam s t) ∧
  (∀ (s : State) (v : Byte), v = s.ram.read (256 + (s.cpu.s + 1).toNat) →
    (∃ t, exec .pla s = .next t ∧ CpuIs t v s.cpu.x s.cpu.y (s.cpu.s + 1) s.cpu.pc 4 ∧ ZnOf t v ∧
      FlagsKeptBut [.z, .n] s t ∧ SameOutsideCpu s t) ∧
    ∃ t, exec .plp s = .next t ∧ CpuIs t s.cpu.a s.cpu.x s.cpu.y (s.cpu.s + 1) s.cpu.pc 4 ∧
      (∀ f, t.flag f = if f = .b then false else if f = .u then true else flagIn v f) ∧
      SameOutsideCpu s t)

/-- R305 to R311: the seven flag instructions write one flag and nothing else, in 2 clocks. SED's rule, R311, also
holds the spec's decision D8 (log entry 20), that no arithmetic reads Decimal; nothing here rests on it. -/
def Obligations.FlagInstructionResults : Prop :=
  RowsOf .clc [(.imp, 0x18)] ∧ RowsOf .sec [(.imp, 0x38)] ∧ RowsOf .cli [(.imp, 0x58)] ∧
  RowsOf .sei [(.imp, 0x78)] ∧ RowsOf .clv [(.imp, 0xB8)] ∧ RowsOf .cld [(.imp, 0xD8)] ∧
  RowsOf .sed [(.imp, 0xF8)] ∧
  ∀ (s : State) (i : Instr) (f : Flag) (b : Bool),
    (i, f, b) ∈ [(Instr.clc, Flag.c, false), (.sec, .c, true), (.cli, .i, false), (.sei, .i, true),
      (.clv, .v, false), (.cld, .d, false), (.sed, .d, true)] →
    ∃ t, exec i s = .next t ∧ CpuIs t s.cpu.a s.cpu.x s.cpu.y s.cpu.s s.cpu.pc 2 ∧
      t.flag f = b ∧ FlagsKeptBut [f] s t ∧ SameOutsideCpu s t

/-- R312 and R315: NOP, and the placeholder for every one of its bytes, change nothing but `cyc`; the
placeholder is one byte long and costs the parameter ILLEGAL_CYCLES. The length and cost of the placeholder
are the spec's decision D7. -/
def Obligations.NopAndPlaceholderResults : Prop :=
  RowsOf .nop [(.imp, 0xEA)] ∧
  (∀ s : State, exec .nop s = .next (s.setCyc 2)) ∧
  ∀ (op : Byte) (s : State), exec (.ill op) s = .next (s.setCyc s.params.illegalCycles) ∧
    (Instr.ill op).length = 1 ∧ (Instr.ill op).opcode = op

/-- R313: BRK skips a byte, pushes `PC` and the status image with bits 4 and 5 set, sets I, and continues at
the address in 0xFFFE and 0xFFFF; the Break bit of the register stays. The details of BRK are the spec's
decision D35. -/
def Obligations.BreakResult : Prop :=
  RowsOf .brk [(.imp, 0x00)] ∧
  ∀ s : State, ∃ (t : State) (lo hi : Byte), exec .brk s = .next t ∧
    s.peek 0xFFFE = some lo ∧ s.peek 0xFFFF = some hi ∧
    CpuIs t s.cpu.a s.cpu.x s.cpu.y (s.cpu.s - 3) (wordOf lo hi) 7 ∧
    t.flag .i = true ∧ FlagsKeptBut [.i] s t ∧
    t.ram = ((s.ram.write (256 + s.cpu.s.toNat) (highByte (s.cpu.pc + 1))).write
      (256 + (s.cpu.s - 1).toNat) (lowByte (s.cpu.pc + 1))).write
      (256 + (s.cpu.s - 2).toNat) (s.cpu.p ||| 0x30) ∧
    t.openBus = s.cpu.p ||| 0x30 ∧ SameOutsideRam s t

/-- R314: RTI pulls the status (bits 4 and 5 ignored), then `PC`, low byte first; nothing is added. That a pull
cannot set bit 4 is the spec's reading, decision D3 (R300, log entry 20). -/
def Obligations.ReturnFromInterruptResult : Prop :=
  RowsOf .rti [(.imp, 0x40)] ∧
  ∀ s : State, ∃ t, exec .rti s = .next t ∧
    CpuIs t s.cpu.a s.cpu.x s.cpu.y (s.cpu.s + 3)
      (wordOf (s.ram.read (256 + (s.cpu.s + 2).toNat)) (s.ram.read (256 + (s.cpu.s + 3).toNat))) 6 ∧
    (∀ f, t.flag f = if f = .b then false else if f = .u then true
      else flagIn (s.ram.read (256 + (s.cpu.s + 1).toNat)) f) ∧
    SameOutsideCpu s t

/-! ### The whole instruction set -/

/-- R29: no instruction writes a register or a flag outside its row of the table; interrupt entry writes `PC`
and `S`, sets I and clears B. -/
def Obligations.RegisterWriters : Prop :=
  (∀ (i : Instr) (s t : State), exec i s = .next t →
    (i.mnemonic ∉ [Mnemonic.lda, .pla, .txa, .tya, .adc, .sbc, .and, .ora, .eor] →
      ¬(i.mnemonic ∈ [Mnemonic.asl, .lsr, .rol, .ror] ∧ i.mode = .imp) → t.cpu.a = s.cpu.a) ∧
    (i.mnemonic ∉ [Mnemonic.ldx, .tax, .tsx, .inx, .dex] → t.cpu.x = s.cpu.x) ∧
    (i.mnemonic ∉ [Mnemonic.ldy, .tay, .iny, .dey] → t.cpu.y = s.cpu.y) ∧
    (i.mnemonic ∉ [Mnemonic.txs, .jsr, .rts, .pha, .php, .pla, .plp, .brk, .rti] →
      t.cpu.s = s.cpu.s) ∧
    (i.mnemonic ∉ [Mnemonic.bcc, .bcs, .beq, .bne, .bpl, .bmi, .bvc, .bvs, .jmp, .jsr, .rts, .brk,
      .rti] → t.cpu.pc = s.cpu.pc) ∧
    ((i.mnemonic ∈ [Mnemonic.plp, .rti] → s.statusWf = true) →
      FlagsKeptBut (flagsWritten i.mnemonic) s t)) ∧
  ∀ (s : State) (vector : Word) (cost : Nat),
    (s.enterInterrupt vector cost).cpu.a = s.cpu.a ∧ (s.enterInterrupt vector cost).cpu.x = s.cpu.x ∧
    (s.enterInterrupt vector cost).cpu.y = s.cpu.y ∧
    (s.enterInterrupt vector cost).flag .i = true ∧ (s.enterInterrupt vector cost).flag .b = false ∧
    FlagsKeptBut [.i, .b] s (s.enterInterrupt vector cost)

/-- What an instruction stores, and that it stores nothing else: every byte of memory but the ones at the
addresses it stores to is as before, as the CPU sees it and as an array. The CPU's view of 0x8000 and above is
claimed only where no stored address lies there, since a store there moves Mapper1's banks (R29, R85, R96). No clause
rests on the open bus, whose latch in R85 is the spec's decision D11. -/
def Obligations.MemoryFrame : Prop :=
  ∀ (i : Instr) (s t : State), exec i s = .next t →
    (s.storedAt i = [] → SameMemory s t) ∧
    (∀ b : Word, (b < 0x8000 ∨ ∀ a ∈ s.storedAt i, a < 0x8000) →
      (∀ a ∈ s.storedAt i, ¬SameCell a b) → t.peek b = s.peek b) ∧
    (∀ k, (∀ a ∈ s.storedAt i, a ≤ 0x1FFF → ramIndex a ≠ k) → t.ram.read k = s.ram.read k) ∧
    t.cart.prg = s.cart.prg ∧
    ((∀ a ∈ s.storedAt i, ¬(0x2000 ≤ a ∧ a ≤ 0x3FFF)) →
      t.ppu.nt0 = s.ppu.nt0 ∧ t.ppu.nt1 = s.ppu.nt1 ∧ t.ppu.pal = s.ppu.pal ∧ t.ppu.oam = s.ppu.oam ∧
      t.cart.pattern = s.cart.pattern) ∧
    t.ppu.frame = s.ppu.frame

/-- R172 to R181: where each addressing mode points, in numbers, and its page-cross flag; the pointer bytes
of the two indirect indexed modes come from the zero page, and no mode but IND changes the machine. That
nothing but the pointer bytes is read is the spec's decision D9. -/
def Obligations.AddressingModes : Prop :=
  ∀ (s : State) (b : Byte) (w : Word),
    (zp0 s b).ea.toNat = b.toNat ∧ (zp0 s b).crossed = false ∧ (zp0 s b).state = s ∧
    (zpx s b).ea.toNat = (b.toNat + s.cpu.x.toNat) % 256 ∧ (zpx s b).crossed = false ∧
    (zpx s b).state = s ∧
    (zpy s b).ea.toNat = (b.toNat + s.cpu.y.toNat) % 256 ∧ (zpy s b).crossed = false ∧
    (zpy s b).state = s ∧
    ((relTarget s b).toNat : Int) = (s.cpu.pc.toNat + b.toInt) % 65536 ∧
    (absolute s w).ea = w ∧ (absolute s w).crossed = false ∧ (absolute s w).state = s ∧
    (abx s w).ea.toNat = (w.toNat + s.cpu.x.toNat) % 65536 ∧
    (abx s w).crossed = decide (256 ≤ w.toNat % 256 + s.cpu.x.toNat) ∧ (abx s w).state = s ∧
    (aby s w).ea.toNat = (w.toNat + s.cpu.y.toNat) % 65536 ∧
    (aby s w).crossed = decide (256 ≤ w.toNat % 256 + s.cpu.y.toNat) ∧ (aby s w).state = s ∧
    (izx s b).ea.toNat =
      (s.ram.read ((b.toNat + s.cpu.x.toNat + 1) % 256)).toNat * 256 +
        (s.ram.read ((b.toNat + s.cpu.x.toNat) % 256)).toNat ∧
    (izx s b).crossed = false ∧ (izx s b).state = s ∧
    (izy s b).ea.toNat =
      ((s.ram.read ((b.toNat + 1) % 256)).toNat * 256 + (s.ram.read b.toNat).toNat + s.cpu.y.toNat)
        % 65536 ∧
    (izy s b).crossed = decide (256 ≤ (s.ram.read b.toNat).toNat + s.cpu.y.toNat) ∧ (izy s b).state = s

/-! ### The bus -/

/-- R86: each RAM byte appears at four CPU addresses: what is written at one is read at every one, reads have no
side effect, and a write changes exactly one byte. -/
def Obligations.RamMirrors : Prop :=
  ∀ (s : State) (a b : Word) (v : Byte), s.ram.wf 2048 = true → a ≤ 0x1FFF → b ≤ 0x1FFF →
    ((s.memWrite a v).memRead b).value =
      (if a.toNat % 0x800 = b.toNat % 0x800 then v else (s.memRead b).value) ∧
    (s.memRead b).state = s ∧
    ∀ k, k ≠ a.toNat % 0x800 → (s.memWrite a v).ram.read k = s.ram.read k

/-- R90: an address that nothing claims reads as the last byte the CPU wrote, to any address. What sets the
latch is the spec's decision D11, that 0x4014 reads it its decision D12 (R84). -/
def Obligations.OpenBus : Prop :=
  ∀ (s : State) (a b : Word) (v : Byte),
    (s.memWrite a v).openBus = v ∧ (s.memRead a).state.openBus = s.openBus ∧
    (b = 0x4014 ∨ (0x4018 ≤ b ∧ b ≤ 0x5FFF) ∨
        (0x6000 ≤ b ∧ b ≤ 0x7FFF ∧ (s.memWrite a v).cart.mapper = .mapper0) →
      (s.memWrite a v).memRead b = { value := v, state := s.memWrite a v })

/-- A bus read has a side effect only at PPU registers 2 and 7 and at the two controller ports, beyond counting a
free byte at 0x4000 to 0x4013 and 0x4015; and what it can change is the PPU's status and data-port latches and
the shifters (R84, R91). Everywhere else a read is idempotent, the write-only PPU registers included: with no
write between them, whatever reads there are, two reads of one address return the same value. The registers' numbers
and read effects are the spec's decision D22 (R382). -/
def Obligations.ReadSideEffects : Prop :=
  ∀ (s : State) (a : Word),
    (¬(0x2000 ≤ a ∧ a ≤ 0x3FFF ∧ (a.toNat % 8 = 2 ∨ a.toNat % 8 = 7)) → a ≠ 0x4016 → a ≠ 0x4017 →
      (∃ n, (s.memRead a).state = s.setDraws n) ∧
      (a ≠ 0x4015 → ¬(0x4000 ≤ a ∧ a ≤ 0x4013) →
        (s.memRead a).state = s ∧
        ∀ between : List Word,
          ((between.foldl (fun t b => (t.memRead b).state) s).memRead a).value = (s.memRead a).value)) ∧
    ∃ n c0 c1 b l d w, (s.memRead a).state =
      { s with draws := n, ctrlShift0 := c0, ctrlShift1 := c1,
               ppu := { s.ppu with vblank := b, addrLatch := l, dataBuffer := d, vram := w } }

/-- R366 and R367: a write to 0x4016 latches both controllers, whatever the value; each read returns the top
bit of the shifter and shifts it left, so that the bits come out from bit 7 down, then zeros. What latches,
and what fills the shifters, is the spec's decision D13. -/
def Obligations.ControllerPorts : Prop :=
  ∀ (s : State) (v : Byte),
    (s.memWrite 0x4016 v).ctrlShift0 = s.controller0 ∧ (s.memWrite 0x4016 v).ctrlShift1 = s.controller1 ∧
    (s.memRead 0x4016).value.toNat = s.ctrlShift0.toNat / 128 ∧
    (s.memRead 0x4016).state = s.setCtrlShift0 (s.ctrlShift0 <<< 1) ∧
    (s.memRead 0x4017).value.toNat = s.ctrlShift1.toNat / 128 ∧
    (s.memRead 0x4017).state = s.setCtrlShift1 (s.ctrlShift1 <<< 1) ∧
    ∀ n, (((fun t : State => (t.memRead 0x4016).state)^[n] (s.memWrite 0x4016 v)).memRead 0x4016).value =
      (if n < 8 then bitAt 0 (s.controller0.getLsbD (7 - n)) else 0)

/-! ### Interrupts -/

/-- R566: interrupt entry, at both its vectors: the two bytes of `PC`, then the status with bit 4 clear and
bit 5 set, go to the stack; B is cleared and I set; `PC` comes from the vector; `cyc` is the cost. The push
order and the pushed I bit are the spec's decision D6, that the cost replaces a running count its decision D5. -/
def Obligations.InterruptEntry : Prop :=
  ∀ (s : State) (vector : Word) (cost : Nat), vector = 0xFFFA ∨ vector = 0xFFFE →
    ∃ (t : State) (lo hi : Byte), s.enterInterrupt vector cost = t ∧
      s.peek vector = some lo ∧ s.peek (vector + 1) = some hi ∧
      CpuIs t s.cpu.a s.cpu.x s.cpu.y (s.cpu.s - 3) (wordOf lo hi) cost ∧
      t.flag .i = true ∧ t.flag .b = false ∧ FlagsKeptBut [.i, .b] s t ∧
      t.ram = ((s.ram.write (256 + s.cpu.s.toNat) (highByte s.cpu.pc)).write
        (256 + (s.cpu.s - 1).toNat) (lowByte s.cpu.pc)).write
        (256 + (s.cpu.s - 2).toNat) ((s.cpu.p &&& 0xCF) ||| 0x20) ∧
      t.openBus = (s.cpu.p &&& 0xCF) ||| 0x20 ∧ SameOutsideRam s t

/-- R567, R568, R570: an NMI request is always taken, at 0xFFFA with 8 clocks; an IRQ request only where I
is clear, at 0xFFFE with 7; both requests are consumed, NMI first, and an IRQ beside it is lost. That a
masked IRQ is consumed and lost is the spec's decision D31. -/
def Obligations.Arbiter : Prop :=
  ∀ s : State,
    (s.ppu.nmiPending = true →
      s.arbiter = ((s.setPpu { s.ppu with nmiPending := false }).enterInterrupt 0xFFFA 8).setCart
        { s.cart with irqState := false }) ∧
    (s.ppu.nmiPending = false → s.cart.irqState = true → s.flag .i = false →
      s.arbiter = (s.setCart { s.cart with irqState := false }).enterInterrupt 0xFFFE 7) ∧
    (s.ppu.nmiPending = false → s.cart.irqState = true → s.flag .i = true →
      s.arbiter = s.setCart { s.cart with irqState := false }) ∧
    (s.ppu.nmiPending = false → s.cart.irqState = false → s.arbiter = s)

/-- A handler that leaves the stack as it found it returns, by RTI, to the interrupted `PC` with the
interrupted status, I included; after BRK it returns two past the opcode (R313, R314, R566, R575). That the pushed
status holds the old I is the spec's decision D6 (R566), BRK's return point its decision D35 (R313), and that RTI
ignores bit 4 its decision D3 (all under log entry 20). -/
def Obligations.InterruptThenReturn : Prop :=
  (∀ (s u : State) (vector : Word) (cost : Nat), s.ram.wf 2048 = true → s.statusWf = true →
    u.ram = (s.enterInterrupt vector cost).ram → u.cpu.s = (s.enterInterrupt vector cost).cpu.s →
    ∃ v, exec .rti u = .next v ∧ v.cpu.pc = s.cpu.pc ∧ v.cpu.p = s.cpu.p ∧ v.cpu.s = s.cpu.s) ∧
  ∀ s t u : State, s.ram.wf 2048 = true → s.statusWf = true → exec .brk s = .next t →
    u.ram = t.ram → u.cpu.s = t.cpu.s →
    ∃ v, exec .rti u = .next v ∧ v.cpu.pc = s.cpu.pc + 1 ∧ v.cpu.p = s.cpu.p ∧ v.cpu.s = s.cpu.s

/-! ### OAM DMA -/

/-- R350 to R354: the trigger arms the controller at index 0, waiting; a waiting slot moves on only at an
odd count; then even slots read `dma_page ++ dma_index` over the bus and odd slots store the byte in OAM.
One sub-step a CPU slot, and the index set by the trigger, are the spec's decision D16. -/
def Obligations.DmaSubSteps : Prop :=
  (∀ (s : State) (v : Byte),
    s.memWrite 0x4014 v =
      (s.noteWrite v).setDma { enable := true, wait := true, page := v, index := 0, data := s.dma.data }) ∧
  (∀ s : State, s.dma.wait = true →
    s.dmaStep = if s.clock % 2 = 1 then s.setDma { s.dma with wait := false } else s) ∧
  (∀ (s : State) (a : Word), s.dma.wait = false → s.clock % 2 = 0 →
    a.toNat = s.dma.page.toNat * 256 + s.dma.index.toNat →
    s.dmaStep = (s.memRead a).state.setDma { s.dma with data := (s.memRead a).value }) ∧
  (∀ s : State, s.dma.wait = false → s.clock % 2 = 1 →
    s.dmaStep.ppu = { s.ppu with oam := s.ppu.oam.write s.dma.index.toNat s.dma.data } ∧
    s.dmaStep.dma =
      { s.dma with index := s.dma.index + 1, enable := s.dma.enable && s.dma.index != 0xFF,
                   wait := s.dma.index == 0xFF } ∧
    s.dmaStep.openBus = s.openBus ∧ s.dmaStep.cpu = s.cpu)

/-- R356 and R357: from the tick after an even-aligned trigger a transfer takes exactly 513 CPU slots of ticks,
after an odd-aligned one 514, whatever interrupts come. Stated from the tick after the triggering one: there the
count is 1 more than the trigger's, `c`. On every tick of a transfer the CPU stands still, its remaining clocks
included, unless the arbiter has a request to take. The spec derives the two totals from its decision D16. -/
def Obligations.DmaDuration : Prop :=
  (∀ (s : State) (c : Nat), s.clock = c + 1 → c % 3 = 0 → s.dma.enable = true → s.dma.wait = true →
    s.dma.index = 0 →
    (∀ n t, n < 3 * (if c % 2 = 0 then 513 else 514) → core.run n s = .next t →
      t.dma.enable = true) ∧
    ∃ t, core.run (3 * (if c % 2 = 0 then 513 else 514)) s = .next t ∧ t.dma.enable = false ∧
      t.dma.wait = true ∧ t.dma.index = 0) ∧
  ∀ s t : State, s.dma.enable = true → s.deviceClock.ppu.nmiPending = false →
    (s.cart.irqState = false ∨ s.flag .i = true) → step s = .next t → t.cpu = s.cpu

/-- R353 to R355: with its source page in RAM, the sub-steps of a transfer, slot after slot, leave in OAM the 256
bytes of the page in order and the controller idle, and change nothing else. The halves' parities and the state at
completion are the spec's decision D16. -/
def Obligations.DmaCopiesPage : Prop :=
  ∀ s : State, s.ppu.oam.wf 256 = true → s.clock % 2 = 0 → s.dma.enable = true → s.dma.wait = false →
    s.dma.index = 0 → s.dma.page.toNat < 0x20 →
    ∃ t, (fun u : State => (u.dmaStep).setClock (u.clock + 3))^[512] s = t ∧
      (∀ i, i < 256 → t.ppu.oam.read i = s.ram.read ((s.dma.page.toNat * 256 + i) % 2048)) ∧
      t.ppu.oam.wf 256 = true ∧
      t = { s with clock := s.clock + 1536
                   dma := { enable := false, wait := true, page := s.dma.page, index := 0
                            data := s.ram.read ((s.dma.page.toNat * 256 + 255) % 2048) }
                   ppu := { s.ppu with oam := t.ppu.oam } }

/-! ### The picture unit -/

/-- R396: the counters of the PPU step through a frame of 262 scanlines of 341 cycles, and `frame_complete`
is raised exactly where the scanline wraps to -1. That no frame skips a cycle is the spec's decision D25. -/
def Obligations.PpuCounters : Prop :=
  ∀ s : State,
    s.ppuClock.ppu.cycle = (if s.ppu.cycle + 1 = 341 then 0 else s.ppu.cycle + 1) ∧
    s.ppuClock.ppu.scanline =
      (if s.ppu.cycle + 1 = 341 then
        (if s.ppu.scanline + 1 = 261 then -1 else s.ppu.scanline + 1) else s.ppu.scanline) ∧
    s.ppuClock.ppu.frameComplete =
      (s.ppu.frameComplete || (decide (s.ppu.cycle + 1 = 341) && decide (s.ppu.scanline + 1 = 261))) ∧
    (-1 ≤ s.ppu.scanline → s.ppu.scanline ≤ 260 → s.ppu.cycle ≤ 340 →
      (s.ppuClock.ppu.scanline + 1) * 341 + s.ppuClock.ppu.cycle =
        ((s.ppu.scanline + 1) * 341 + s.ppu.cycle + 1) % 89342)

/-- R421 and R420: VerticalBlank is set at scanline 241, cycle 1, with an NMI request if enabled, and cleared at
cycle 1 of the pre-render line; an NMI so requested is entered in the same tick. The place of the enable bit is the
spec's decision D22 (R383). -/
def Obligations.VerticalBlank : Prop :=
  (∀ s : State, s.ppu.scanline = 241 → s.ppu.cycle = 1 →
    s.ppuClock.ppu.vblank = true ∧
    s.ppuClock.ppu.nmiPending = (s.ppu.nmiPending || s.ppu.control.getLsbD 7)) ∧
  (∀ s : State, s.ppu.scanline = -1 → s.ppu.cycle = 1 →
    s.ppuClock.ppu.vblank = false ∧ s.ppuClock.ppu.sprite0 = false ∧ s.ppuClock.ppu.overflow = false) ∧
  (∀ s : State, ¬(s.ppu.scanline = 241 ∧ s.ppu.cycle = 1) → ¬(s.ppu.scanline = -1 ∧ s.ppu.cycle = 1) →
    s.ppuClock.ppu.vblank = s.ppu.vblank ∧ s.ppuClock.ppu.nmiPending = s.ppu.nmiPending) ∧
  ∀ s : State, s.ppu.scanline = 241 → s.ppu.cycle = 1 → s.ppu.control.getLsbD 7 = true →
    s.clock % 3 ≠ 0 →
    ∃ (t : State) (lo hi : Byte), step s = .next t ∧ s.peek 0xFFFA = some lo ∧ s.peek 0xFFFB = some hi ∧
      t.cpu.pc = wordOf lo hi ∧ t.cpu.s = s.cpu.s - 3 ∧ t.cpu.cyc = 8 ∧ t.flag .i = true ∧
      t.ppu.vblank = true ∧ t.ppu.nmiPending = false

/-- R415 to R418: while rendering, the scroll updates step the horizontal position with a carry into the
nametable bit after 31, the vertical one row by row with a carry into the nametable bit after 29 and none after
31, and copy the two halves of `tram`; each touches its own fields of `vram` only, and with rendering off none
touches anything. A clock step runs them, on the pre-render and visible lines, in the cycles of R395: the
horizontal one at phase 7 of each fetch, both at 256, the copies at 257 and, on the pre-render line, 280 to 304.
That they need rendering to be on is the spec's decision D41 (R398), and the phase its decision D20. -/
def Obligations.ScrollUpdates : Prop :=
  (∀ p : Ppu,
    p.rendering = (p.mask.getLsbD 3 || p.mask.getLsbD 4) ∧
    (p.rendering = true →
      (∃ v, p.incX = { p with vram := v } ∧
        (coarseX v).toNat = ((coarseX p.vram).toNat + 1) % 32 ∧
        ntX v = (ntX p.vram ^^ decide ((coarseX p.vram).toNat = 31)) ∧
        coarseY v = coarseY p.vram ∧ ntY v = ntY p.vram ∧ fineY v = fineY p.vram) ∧
      (∃ v, p.incY = { p with vram := v } ∧
        (fineY v).toNat = ((fineY p.vram).toNat + 1) % 8 ∧
        (coarseY v).toNat =
          (if (fineY p.vram).toNat < 7 then (coarseY p.vram).toNat
           else if (coarseY p.vram).toNat = 29 then 0 else ((coarseY p.vram).toNat + 1) % 32) ∧
        ntY v = (ntY p.vram ^^ (decide ((fineY p.vram).toNat = 7) && decide ((coarseY p.vram).toNat = 29))) ∧
        coarseX v = coarseX p.vram ∧ ntX v = ntX p.vram) ∧
      (∃ v, p.transferX = { p with vram := v } ∧ coarseX v = coarseX p.tram ∧ ntX v = ntX p.tram ∧
        coarseY v = coarseY p.vram ∧ ntY v = ntY p.vram ∧ fineY v = fineY p.vram) ∧
      (∃ v, p.transferY = { p with vram := v } ∧ coarseY v = coarseY p.tram ∧ ntY v = ntY p.tram ∧
        fineY v = fineY p.tram ∧ coarseX v = coarseX p.vram ∧ ntX v = ntX p.vram)) ∧
    (p.rendering = false → p.incX = p ∧ p.incY = p ∧ p.transferX = p ∧ p.transferY = p)) ∧
  ∀ s : State,
    s.ppuClock.ppu.tram = s.ppu.tram ∧ s.ppuClock.ppu.fineX = s.ppu.fineX ∧
    s.ppuClock.ppu.vram =
      (if ¬(-1 ≤ s.ppu.scanline ∧ s.ppu.scanline ≤ 239) then s.ppu.vram
       else if s.ppu.cycle = 256 then s.ppu.incX.incY.vram
       else if s.ppu.cycle = 257 then s.ppu.transferX.vram
       else if s.ppu.scanline = -1 ∧ 280 ≤ s.ppu.cycle ∧ s.ppu.cycle ≤ 304 then s.ppu.transferY.vram
       else if fetchPhase s.ppu.scanline s.ppu.cycle = some 7 then s.ppu.incX.vram
       else s.ppu.vram)

/-- R400 to R414: what a clock step does to the background latches and shifters, for every line and cycle. In the
fetch windows the four latches are filled at phases 0, 2, 4 and 6 from the nametable, attribute and pattern
addresses of `vram`, the tile id at cycles 338 and 340 as well; the shifters shift by one, and at phase 0 their
low bytes are reloaded from the latches before the fetch, while the background is on; elsewhere nothing changes.
The phase is the spec's decision D20. -/
def Obligations.BackgroundPipeline : Prop :=
  ∀ (s : State) (nt att pat : PpuAddr) (phase : Option Nat) (attr : Nat),
    nt.toNat = 0x2000 + s.ppu.vram.toNat % 4096 →
    att.toNat = 0x23C0 + 2048 * (ntY s.ppu.vram).toNat + 1024 * (ntX s.ppu.vram).toNat +
      8 * ((coarseY s.ppu.vram).toNat / 4) + (coarseX s.ppu.vram).toNat / 4 →
    pat.toNat = 4096 * (s.ppu.control.getLsbD 4).toNat + 16 * s.ppu.bgNextId.toNat +
      (fineY s.ppu.vram).toNat →
    phase = fetchPhase s.ppu.scanline s.ppu.cycle →
    attr = (s.ppuRead att).toNat /
      2 ^ (4 * ((coarseY s.ppu.vram).toNat / 2 % 2) + 2 * ((coarseX s.ppu.vram).toNat / 2 % 2)) % 4 →
    s.ppuClock.ppu.bgNextId =
      (if phase = some 0 ∨ (-1 ≤ s.ppu.scanline ∧ s.ppu.scanline ≤ 239 ∧
          (s.ppu.cycle = 338 ∨ s.ppu.cycle = 340)) then s.ppuRead nt else s.ppu.bgNextId) ∧
    s.ppuClock.ppu.bgNextAttr.toNat = (if phase = some 2 then attr else s.ppu.bgNextAttr.toNat) ∧
    s.ppuClock.ppu.bgNextLsb = (if phase = some 4 then s.ppuRead pat else s.ppu.bgNextLsb) ∧
    s.ppuClock.ppu.bgNextMsb = (if phase = some 6 then s.ppuRead (pat + 8) else s.ppu.bgNextMsb) ∧
    ∀ (before after : BitVec 16) (low : Byte),
      (before, low, after) ∈
        [(s.ppu.shPatLo, s.ppu.bgNextLsb, s.ppuClock.ppu.shPatLo),
         (s.ppu.shPatHi, s.ppu.bgNextMsb, s.ppuClock.ppu.shPatHi),
         (s.ppu.shAttLo, if s.ppu.bgNextAttr.getLsbD 0 then 0xFF else 0x00, s.ppuClock.ppu.shAttLo),
         (s.ppu.shAttHi, if s.ppu.bgNextAttr.getLsbD 1 then 0xFF else 0x00, s.ppuClock.ppu.shAttHi)] →
      after.toNat =
        (if phase = none ∨ s.ppu.mask.getLsbD 3 = false then before.toNat
         else if phase = some 0 then 2 * before.toNat % 65536 / 256 * 256 + low.toNat
         else 2 * before.toNat % 65536)

/-- R425: a pixel is the palette byte whose index the four shifters give at the position that `fine_x` selects,
or the backdrop while the background is off; it goes to row `scanline`, column `cycle - 1`. A clock step writes
the frame on the visible cycles only: there the pixel of the shifters as that cycle's shift leaves them (R395;
cycle 1 has none), and no other cell. The backdrop while the background is off is the spec's decision D23, the
order of R395 the spec's own, and the palette's mask, where R110 reads it, its decision D27. -/
def Obligations.PixelOutput : Prop :=
  ∀ s : State, s.ppu.frame.wf 61440 = true →
    (∀ (a : PpuAddr) (k b3 b2 b1 b0 : Nat),
      b3 = (s.ppu.mask.getLsbD 3 && s.ppu.shAttHi.getLsbD k).toNat →
      b2 = (s.ppu.mask.getLsbD 3 && s.ppu.shAttLo.getLsbD k).toNat →
      b1 = (s.ppu.mask.getLsbD 3 && s.ppu.shPatHi.getLsbD k).toNat →
      b0 = (s.ppu.mask.getLsbD 3 && s.ppu.shPatLo.getLsbD k).toNat →
      a.toNat = 0x3F00 + 8 * b3 + 4 * b2 + 2 * b1 + b0 →
      (k = 15 - s.ppu.fineX.toNat →
        s.emitPixel.ppu.frame.read (s.ppu.scanline.toNat * 256 + (s.ppu.cycle - 1)) = s.ppu.palRead a) ∧
      (0 ≤ s.ppu.scanline → s.ppu.scanline ≤ 239 → 1 ≤ s.ppu.cycle → s.ppu.cycle ≤ 256 →
        k = (if s.ppu.cycle = 1 then 15 - s.ppu.fineX.toNat else 14 - s.ppu.fineX.toNat) →
        s.ppuClock.ppu.frame.read (s.ppu.scanline.toNat * 256 + (s.ppu.cycle - 1)) = s.ppu.palRead a)) ∧
    (¬(0 ≤ s.ppu.scanline ∧ s.ppu.scanline ≤ 239 ∧ 1 ≤ s.ppu.cycle ∧ s.ppu.cycle ≤ 256) →
      s.ppuClock.ppu.frame = s.ppu.frame) ∧
    ∀ k, k ≠ s.ppu.scanline.toNat * 256 + (s.ppu.cycle - 1) →
      s.ppuClock.ppu.frame.read k = s.ppu.frame.read k

/-- R383 to R388: a write to PPU registers 0 to 6, at any of their mirrors, and nothing else changes. Register 0
stores the byte, its low bits go to the nametable select of `tram`, and a 0 to 1 step of the NMI enable while
VerticalBlank is set requests an NMI; 1 is the mask; 2 has no effect; 3 is the OAM address; 4 stores in OAM and
advances the address modulo 256, and reads OAM without a side effect; 5 and 6 are written in two steps of one
shared latch. Registers 3, 4 and 5 are the spec's decision D22. -/
def Obligations.PictureRegisterWrites : Prop :=
  ∀ (s : State) (a : Word) (v : Byte), 0x2000 ≤ a → a ≤ 0x3FFF →
    (a.toNat % 8 = 0 →
      ∃ tram : BitVec 15,
        s.memWrite a v = (s.noteWrite v).setPpu
          { s.ppu with control := v, tram := tram,
                       nmiPending := s.ppu.nmiPending ||
                         (!s.ppu.control.getLsbD 7 && v.getLsbD 7 && s.ppu.vblank) } ∧
        ntX tram = v.getLsbD 0 ∧ ntY tram = v.getLsbD 1 ∧ coarseX tram = coarseX s.ppu.tram ∧
        coarseY tram = coarseY s.ppu.tram ∧ fineY tram = fineY s.ppu.tram) ∧
    (a.toNat % 8 = 1 → s.memWrite a v = (s.noteWrite v).setPpu { s.ppu with mask := v }) ∧
    (a.toNat % 8 = 2 → s.memWrite a v = s.noteWrite v) ∧
    (a.toNat % 8 = 3 → s.memWrite a v = (s.noteWrite v).setPpu { s.ppu with oamAddr := v }) ∧
    (a.toNat % 8 = 4 →
      (∃ next : Byte, next.toNat = (s.ppu.oamAddr.toNat + 1) % 256 ∧
        s.memWrite a v = (s.noteWrite v).setPpu
          { s.ppu with oam := s.ppu.oam.write s.ppu.oamAddr.toNat v, oamAddr := next }) ∧
      s.memRead a = { value := s.ppu.oam.read s.ppu.oamAddr.toNat, state := s }) ∧
    (a.toNat % 8 = 5 → s.ppu.addrLatch = false →
      ∃ tram : BitVec 15,
        s.memWrite a v = (s.noteWrite v).setPpu
          { s.ppu with fineX := v.extractLsb' 0 3, tram := tram, addrLatch := true } ∧
        coarseX tram = v.extractLsb' 3 5 ∧ coarseY tram = coarseY s.ppu.tram ∧
        fineY tram = fineY s.ppu.tram ∧ ntX tram = ntX s.ppu.tram ∧ ntY tram = ntY s.ppu.tram) ∧
    (a.toNat % 8 = 5 → s.ppu.addrLatch = true →
      ∃ tram : BitVec 15,
        s.memWrite a v = (s.noteWrite v).setPpu { s.ppu with tram := tram, addrLatch := false } ∧
        fineY tram = v.extractLsb' 0 3 ∧ coarseY tram = v.extractLsb' 3 5 ∧
        coarseX tram = coarseX s.ppu.tram ∧ ntX tram = ntX s.ppu.tram ∧ ntY tram = ntY s.ppu.tram) ∧
    (a.toNat % 8 = 6 → s.ppu.addrLatch = false →
      ∃ tram : BitVec 15,
        s.memWrite a v = (s.noteWrite v).setPpu { s.ppu with tram := tram, addrLatch := true } ∧
        tram.toNat = v.toNat % 64 * 256 + s.ppu.tram.toNat % 256) ∧
    (a.toNat % 8 = 6 → s.ppu.addrLatch = true →
      ∃ tram : BitVec 15,
        s.memWrite a v = (s.noteWrite v).setPpu
          { s.ppu with tram := tram, vram := tram, addrLatch := false } ∧
        tram.toNat = s.ppu.tram.toNat / 256 * 256 + v.toNat)

/-- R390 and R391, at every mirror (R87): a write to register 7 is a write of the PPU's address space at `vram`
modulo 0x4000, then an advance of `vram`, and nothing else; register 6 written twice, then register 7 N times, leaves
the address written plus N times 1 or 32, modulo 0x8000; a read of register 7 advances it the same way. The place of
the increment bit is the spec's decision D22 (R383). -/
def Obligations.DataPortAdvances : Prop :=
  (∀ (s : State) (a : Word) (v : Byte) (d : PpuAddr), 0x2000 ≤ a → a ≤ 0x3FFF → a.toNat % 8 = 7 →
    d.toNat = s.ppu.vram.toNat % 0x4000 →
    ∃ (stored : State) (next : BitVec 15), stored = (s.noteWrite v).ppuWrite d v ∧
      next.toNat = (s.ppu.vram.toNat + (if s.ppu.control.getLsbD 2 then 32 else 1)) % 0x8000 ∧
      s.memWrite a v = stored.setPpu { stored.ppu with vram := next }) ∧
  (∀ (s : State) (hi lo : Byte) (a b : Word) (ws : List (Word × Byte)), s.ppu.addrLatch = false →
    0x2000 ≤ a → a ≤ 0x3FFF → a.toNat % 8 = 6 → 0x2000 ≤ b → b ≤ 0x3FFF → b.toNat % 8 = 6 →
    (∀ w ∈ ws, 0x2000 ≤ w.1 ∧ w.1 ≤ 0x3FFF ∧ w.1.toNat % 8 = 7) →
    (ws.foldl (fun t w => t.memWrite w.1 w.2) ((s.memWrite a hi).memWrite b lo)).ppu.vram.toNat =
      (hi.toNat % 64 * 256 + lo.toNat +
        ws.length * (if s.ppu.control.getLsbD 2 then 32 else 1)) % 0x8000) ∧
  ∀ (s : State) (a : Word), 0x2000 ≤ a → a ≤ 0x3FFF → a.toNat % 8 = 7 →
    (s.memRead a).state.ppu.vram.toNat =
      (s.ppu.vram.toNat + (if s.ppu.control.getLsbD 2 then 32 else 1)) % 0x8000

/-- R385 and R389, at every mirror (R87): a read of register 2 gives the three status bits on top and clears
VerticalBlank and the latch, beyond counting a free byte; a read of register 7 gives the previous read's byte below
0x3F00 and the palette byte itself above, reloads the buffer and advances `vram`; nothing else of the machine
changes. The status bits' places, the read buffer and the increment bit's place are the spec's decision D22. -/
def Obligations.StatusAndDataReads : Prop :=
  ∀ (s : State) (a : Word), 0x2000 ≤ a → a ≤ 0x3FFF →
    (a.toNat % 8 = 2 →
      (s.memRead a).value.getLsbD 7 = s.ppu.vblank ∧
      (s.memRead a).value.getLsbD 6 = s.ppu.sprite0 ∧
      (s.memRead a).value.getLsbD 5 = s.ppu.overflow ∧
      ∃ n, (s.memRead a).state =
        (s.setDraws n).setPpu { s.ppu with vblank := false, addrLatch := false }) ∧
    (a.toNat % 8 = 7 → ∀ d : PpuAddr, d.toNat = s.ppu.vram.toNat % 0x4000 →
      ∃ next : BitVec 15,
        next.toNat = (s.ppu.vram.toNat + (if s.ppu.control.getLsbD 2 then 32 else 1)) % 0x8000 ∧
        s.memRead a =
          { value := if 0x3F00 ≤ d then s.ppuRead d else s.ppu.dataBuffer
            state := s.setPpu { s.ppu with dataBuffer := s.ppuRead d, vram := next } })

/-- R112: the palette is mirrored every 32 bytes with the four background slots aliased, keeps what is
written, changing nothing else, and is masked as it is read. That reads through 0x2007 are masked too is the
spec's decision D27. -/
def Obligations.PaletteAliases : Prop :=
  ∀ (s : State) (a b : PpuAddr) (v : Byte), s.ppu.pal.wf 32 = true → 0x3F00 ≤ a → 0x3F00 ≤ b →
    palIndex a = (if a.toNat % 32 ∈ [16, 20, 24, 28] then a.toNat % 32 - 16 else a.toNat % 32) ∧
    s.ppuWrite a v = s.setPpu { s.ppu with pal := s.ppu.pal.write (palIndex a) v } ∧
    (s.ppuWrite a v).ppuRead b =
      (if palIndex a = palIndex b then v &&& (if s.ppu.mask.getLsbD 0 then 0x30 else 0x3F)
       else s.ppuRead b)

/-- R114 and R526: a nametable byte written at one address is read at every address of the same table and offset
under the cartridge's mirroring, and no other changes, nor anything else of the machine; the mirroring is the hint
with Mapper0 and the two low bits of the control register with Mapper1. The one-screen layouts are the spec's
decision D28, the control register's bits its decision D29. -/
def Obligations.NametableMirroring : Prop :=
  (∀ (s : State) (a b : PpuAddr) (v : Byte), s.memoriesWf = true →
      0x2000 ≤ a → a ≤ 0x3EFF → 0x2000 ≤ b → b ≤ 0x3EFF →
      (s.ppuWrite a v).ppuRead b =
        if ntTableNumber s.cart.layout a = ntTableNumber s.cart.layout b ∧ a.toNat % 1024 = b.toNat % 1024
        then v else s.ppuRead b) ∧
  (∀ (s : State) (a : PpuAddr) (v : Byte), 0x2000 ≤ a → a ≤ 0x3EFF →
    s.ppuWrite a v = s.setPpu
      (if ntTableNumber s.cart.layout a = 0
       then { s.ppu with nt0 := s.ppu.nt0.write (a.toNat % 1024) v }
       else { s.ppu with nt1 := s.ppu.nt1.write (a.toNat % 1024) v })) ∧
  ∀ c : Cartridge,
    (c.mapper = .mapper0 → c.layout = if c.hint = .vertical then .vertical else .horizontal) ∧
    ∀ r : Mapper1, c.mapper = .mapper1 r →
      c.layout =
        if r.control.toNat % 4 = 0 then .oneScreenLow
        else if r.control.toNat % 4 = 1 then .oneScreenHigh
        else if r.control.toNat % 4 = 2 then .vertical
        else .horizontal

/-! ### The audio unit -/

/-- R465 and R466: 0x4015. A write sets the enables and clears the length of each channel it disables; a
read shows which lengths are not 0 and has no side effect but a free byte drawn. The bits of both are the
spec's decision D18. -/
def Obligations.ApuControlAndStatus : Prop :=
  ∀ (s : State) (v : Byte),
    s.memWrite 0x4015 v = (s.noteWrite v).setApu
      { s.apu with
        pulse1 := { s.apu.pulse1 with enable := v.getLsbD 0
                                      length := if v.getLsbD 0 then s.apu.pulse1.length else 0 }
        pulse2 := { s.apu.pulse2 with enable := v.getLsbD 1
                                      length := if v.getLsbD 1 then s.apu.pulse2.length else 0 }
        noise := { s.apu.noise with enable := v.getLsbD 3
                                    length := if v.getLsbD 3 then s.apu.noise.length else 0 } } ∧
    (s.memRead 0x4015).value.getLsbD 0 = decide (s.apu.pulse1.length ≠ 0) ∧
    (s.memRead 0x4015).value.getLsbD 1 = decide (s.apu.pulse2.length ≠ 0) ∧
    (s.memRead 0x4015).value.getLsbD 3 = decide (s.apu.noise.length ≠ 0) ∧
    ∃ n, (s.memRead 0x4015).state = s.setDraws n

/-- R462 to R464 and R467: a write to each register of the pulse and noise channels, with the fields it sets and
no other, and the length table; the triangle, DMC and frame registers take no effect. The register bits are the
spec's decision D18, and that 0x4017 has no effect its decision D17. -/
def Obligations.ApuRegisters : Prop :=
  lengthTable =
    [10, 254, 20, 2, 40, 4, 80, 6, 160, 8, 60, 10, 14, 12, 26, 14,
     12, 16, 24, 18, 48, 20, 96, 22, 192, 24, 72, 26, 16, 28, 32, 30] ∧
  (∀ (s : State) (v : Byte) (a : Word) (p : Pulse) (put : Pulse → Apu),
    (a, p, put) ∈
      [((0x4000 : Word), s.apu.pulse1, fun q : Pulse => { s.apu with pulse1 := q }),
       (0x4004, s.apu.pulse2, fun q => { s.apu with pulse2 := q })] →
    s.memWrite a v = (s.noteWrite v).setApu
      (put { p with
        duty := v.extractLsb' 6 2
        env := { p.env with loop := v.getLsbD 5, const := v.getLsbD 4, vol := v.extractLsb' 0 4 } }) ∧
    s.memWrite (a + 1) v = (s.noteWrite v).setApu
      (put { p with
        sweep := { enable := v.getLsbD 7, period := v.extractLsb' 4 3, negate := v.getLsbD 3,
                   shift := v.extractLsb' 0 3, reload := true, div := p.sweep.div } }) ∧
    (∃ w : BitVec 11, w.toNat = p.timerReload.toNat / 256 * 256 + v.toNat ∧
      s.memWrite (a + 2) v = (s.noteWrite v).setApu (put { p with timerReload := w })) ∧
    ∃ w : BitVec 11, w.toNat = v.toNat % 8 * 256 + p.timerReload.toNat % 256 ∧
      s.memWrite (a + 3) v = (s.noteWrite v).setApu
        (put { p with
          timerReload := w
          length := if p.enable then lengthTable.getD (v.toNat / 8) 0 else p.length
          seqPos := 0
          env := { p.env with start := true } })) ∧
  (∀ (s : State) (v : Byte) (n : Noise), n = s.apu.noise →
    s.memWrite 0x400C v = (s.noteWrite v).setApu
      { s.apu with noise := { n with
        env := { n.env with loop := v.getLsbD 5, const := v.getLsbD 4, vol := v.extractLsb' 0 4 } } } ∧
    s.memWrite 0x400D v = s.noteWrite v ∧
    s.memWrite 0x400E v = (s.noteWrite v).setApu
      { s.apu with noise := { n with mode := v.getLsbD 7, period := v.extractLsb' 0 4 } } ∧
    s.memWrite 0x400F v = (s.noteWrite v).setApu
      { s.apu with noise := { n with
        length := if n.enable then lengthTable.getD (v.toNat / 8) 0 else n.length
        env := { n.env with start := true } } }) ∧
  ∀ (s : State) (v : Byte) (a : Word),
    (0x4008 ≤ a ∧ a ≤ 0x400B) ∨ (0x4010 ≤ a ∧ a ≤ 0x4013) ∨ a = 0x4017 →
    s.memWrite a v = s.noteWrite v

/-- The steps of the audio channels, in numbers: the envelope (R480), the pulse timer and its sequencer (R475), the
noise timer and its shift register (R490), and the channels' levels (R476, R481, R491); and when they happen: the
timers once every 6 ticks, after the sweep of a half-frame event, and nothing but the count on the other ticks
(R470). The steps' details are the spec's decision D19, the tables its decision D18 (R461), the event counts and the
division by 6 its decision D17 (R470). -/
def Obligations.ApuChannelSteps : Prop :=
  (∀ e : Envelope,
    (e.start = true → e.tick = { e with start := false, decay := 15, div := e.vol }) ∧
    (e.start = false → e.div = 0 →
      ∃ k : BitVec 4, k.toNat = (if e.decay ≠ 0 then e.decay.toNat - 1 else if e.loop then 15 else 0) ∧
        e.tick = { e with div := e.vol, decay := k }) ∧
    (e.start = false → e.div ≠ 0 →
      ∃ d : BitVec 4, d.toNat = e.div.toNat - 1 ∧ e.tick = { e with div := d })) ∧
  (∀ p : Pulse,
    (p.timer = 0 →
      ∃ q : BitVec 3, q.toNat = (p.seqPos.toNat + 1) % 8 ∧
        p.timerTick = { p with timer := p.timerReload, seqPos := q }) ∧
    (p.timer ≠ 0 →
      ∃ d : BitVec 11, d.toNat = p.timer.toNat - 1 ∧ p.timerTick = { p with timer := d })) ∧
  noisePeriodTable = [4, 8, 16, 32, 64, 96, 128, 160, 202, 254, 380, 508, 762, 1016, 2034, 4068] ∧
  (∀ n : Noise,
    (n.timer = 0 →
      ∃ (d : BitVec 12) (l : BitVec 15),
        d.toNat = noisePeriodTable.getD n.period.toNat 0 / 2 - 1 ∧
        (∀ k, k < 14 → l.getLsbD k = n.lfsr.getLsbD (k + 1)) ∧
        l.getLsbD 14 = (n.lfsr.getLsbD 0 ^^ n.lfsr.getLsbD (if n.mode then 6 else 1)) ∧
        n.timerTick = { n with timer := d, lfsr := l }) ∧
    (n.timer ≠ 0 →
      ∃ d : BitVec 12, d.toNat = n.timer.toNat - 1 ∧ n.timerTick = { n with timer := d })) ∧
  dutyTable.map (·.map (·.toNat)) =
    [[0, 1, 0, 0, 0, 0, 0, 0], [0, 1, 1, 0, 0, 0, 0, 0], [0, 1, 1, 1, 1, 0, 0, 0], [1, 0, 0, 1, 1, 1, 1, 1]] ∧
  (∀ (p : Pulse) (id : PulseId),
    p.out id =
      if p.length = 0 ∨ ((dutyTable.getD p.duty.toNat []).getD p.seqPos.toNat false) = false ∨
          p.sweepMute id = true then 0
      else if p.env.const then p.env.vol else p.env.decay) ∧
  (∀ n : Noise,
    n.out = if n.length = 0 ∨ n.lfsr.getLsbD 0 = true then 0
      else if n.env.const then n.env.vol else n.env.decay) ∧
  ∀ u : Apu,
    (u.clock % 6 ≠ 0 → u.tick = { u with clock := u.clock + 1 }) ∧
    (u.clock % 6 = 0 →
      ∀ p q : Pulse,
        p = (if u.seqCount + 1 = 7457 ∨ u.seqCount + 1 = 14916 then u.pulse1.sweepTick .one else u.pulse1) →
        q = (if u.seqCount + 1 = 7457 ∨ u.seqCount + 1 = 14916 then u.pulse2.sweepTick .two else u.pulse2) →
        u.tick.pulse1 = { p.timerTick with length := u.tick.pulse1.length, env := u.tick.pulse1.env } ∧
        u.tick.pulse2 = { q.timerTick with length := u.tick.pulse2.length, env := u.tick.pulse2.env } ∧
        u.tick.noise = { u.noise.timerTick with length := u.tick.noise.length, env := u.tick.noise.env })

/-- R470, R472, R483: the frame sequencer counts one APU cycle every 6 ticks and wraps at 14916; the length
counters move only at its half-frame events, down by one unless halted or 0. The event counts are the spec's
decision D17, the length counters' clock its decision D19 (R483). -/
def Obligations.FrameSequencer : Prop :=
  ∀ u : Apu,
    u.tick.clock = u.clock + 1 ∧
    u.tick.seqCount =
      (if u.clock % 6 = 0 then (if u.seqCount + 1 = 14916 then 0 else u.seqCount + 1) else u.seqCount) ∧
    let half := u.clock % 6 = 0 ∧ (u.seqCount + 1 = 7457 ∨ u.seqCount + 1 = 14916)
    let quarter := u.clock % 6 = 0 ∧ (u.seqCount + 1 = 3729 ∨ u.seqCount + 1 = 7457 ∨
      u.seqCount + 1 = 11186 ∨ u.seqCount + 1 = 14916)
    (u.tick.pulse1.length.toNat = if half ∧ u.pulse1.env.loop = false then u.pulse1.length.toNat - 1
      else u.pulse1.length.toNat) ∧
    (u.tick.pulse2.length.toNat = if half ∧ u.pulse2.env.loop = false then u.pulse2.length.toNat - 1
      else u.pulse2.length.toNat) ∧
    (u.tick.noise.length.toNat = if half ∧ u.noise.env.loop = false then u.noise.length.toNat - 1
      else u.noise.length.toNat) ∧
    (u.tick.pulse1.env = if quarter then u.pulse1.env.tick else u.pulse1.env) ∧
    (u.tick.pulse2.env = if quarter then u.pulse2.env.tick else u.pulse2.env) ∧
    (u.tick.noise.env = if quarter then u.noise.env.tick else u.noise.env)

/-- R485 and R486: the sweep unit's target and its muting, in integers, for both pulse channels; and its clock: the
period is retuned to the target when the divider is at 0 and the unit is on, shifts and is not muted; the divider
restarts at 0 or on the reload flag, which it clears, and otherwise counts down. The range and the difference
between the channels, and the clock's order, are the spec's decision D19. -/
def Obligations.SweepUnit : Prop :=
  ∀ (p : Pulse) (id : PulseId),
    let reload : Int := p.timerReload.toNat
    let change : Int := p.timerReload.toNat / 2 ^ p.sweep.shift.toNat
    let target : Int :=
      if p.sweep.negate = false then reload + change
      else if id = .one then max 0 (reload - change - 1)
      else max 0 (reload - change)
    (p.sweepTarget id : Int) = target ∧
    p.sweepMute id = (decide (reload < 8) || decide (0x7FF < target)) ∧
    ∃ (w : BitVec 11) (d : BitVec 3),
      p.sweepTick id = { p with timerReload := w, sweep := { p.sweep with div := d, reload := false } } ∧
      (w.toNat : Int) =
        (if p.sweep.div = 0 ∧ p.sweep.enable = true ∧ p.sweep.shift ≠ 0 ∧ 8 ≤ reload ∧ target ≤ 0x7FF
         then target else reload) ∧
      d.toNat =
        (if p.sweep.div = 0 ∨ p.sweep.reload = true then p.sweep.period.toNat else p.sweep.div.toNat - 1)

/-! ### The cartridge -/

/-- R530: Mapper1's serial register: five writes of a bit each to 0x8000 and above, the first from an empty
loader, commit the five bits, first bit lowest, to the register that bits 14:13 of the fifth address select; a
write before the fifth changes the loader only; a write with bit 7 set empties the loader and forces PRG
mode 3, whatever the count. A CPU write at 0x8000 and above to a Mapper1 cartridge is that serial write and
nothing else. -/
def Obligations.SerialLoad : Prop :=
  (∀ (r : Mapper1) (writes : List (Word × Byte)) (last : Word) (value : BitVec 5),
    r.count = 0 → writes.length = 5 → (∀ w ∈ writes, w.2.getLsbD 7 = false) →
    (writes.getLast?.map (·.1)) = some last →
    (∀ (k : Nat) (h : k < writes.length), value.getLsbD k = writes[k].2.getLsbD 0) →
    writes.foldl (fun q w => q.serialWrite w.1 w.2) r =
      { r with
        load := 0, count := 0
        control := if last.toNat / 8192 % 4 = 0 then value else r.control
        chrLo := if last.toNat / 8192 % 4 = 1 then value else r.chrLo
        chrHi := if last.toNat / 8192 % 4 = 2 then value else r.chrHi
        prg := if last.toNat / 8192 % 4 = 3 then value else r.prg }) ∧
  (∀ (r : Mapper1) (a : Word) (v : Byte), v.getLsbD 7 = false → r.count < 4 →
    ∃ load : BitVec 5, load.toNat = (v.getLsbD 0).toNat * 16 + r.load.toNat / 2 ∧
      r.serialWrite a v = { r with load := load, count := r.count + 1 }) ∧
  (∀ (r : Mapper1) (a : Word) (v : Byte), v.getLsbD 7 = true →
    r.serialWrite a v = { r with load := 0, count := 0, control := r.control ||| 0x0C }) ∧
  ∀ (s : State) (r : Mapper1) (a : Word) (v : Byte), s.cart.mapper = .mapper1 r → 0x8000 ≤ a →
    s.memWrite a v = (s.noteWrite v).setCart { s.cart with mapper := .mapper1 (r.serialWrite a v) }

/-- The memory of the cartridge, in numbers. What the CPU sees of PRG ROM through each mapper (R522, R531, R535),
which a write does not change with Mapper0 (R523); Mapper1's PRG-RAM, read and written at 0x6000 to 0x7FFF (R531,
R532); pattern memory: CHR-RAM, unbanked, and CHR ROM, which ignores writes, through each mapper (R524, R525, R533,
R536). Mapper1's offsets and its PRG-RAM are the spec's decision D29, and the claim of R523 its decision D30. -/
def Obligations.CartridgeMemory : Prop :=
  (∀ (c : Cartridge) (a : Word), 0x8000 ≤ a →
      (c.mapper = .mapper0 →
        c.cpuRead a = some (c.prg.read
          (a.toNat % (if 1 < c.prgBanks then 0x8000 else 0x4000) % (c.prgBanks * 16384)))) ∧
      ∀ r : Mapper1, c.mapper = .mapper1 r →
        c.cpuRead a = some (c.prg.read
          ((if r.control.toNat / 4 % 4 < 2 then r.prg.toNat / 2 % 8 * 0x8000 + a.toNat % 0x8000
            else if r.control.toNat / 4 % 4 = 2 then
              (if a.toNat < 0xC000 then a.toNat % 0x4000 else r.prg.toNat % 16 * 0x4000 + a.toNat % 0x4000)
            else
              (if a.toNat < 0xC000 then r.prg.toNat % 16 * 0x4000 + a.toNat % 0x4000
               else (c.prgBanks - 1) * 0x4000 + a.toNat % 0x4000)) % (c.prgBanks * 16384)))) ∧
  (∀ (s : State) (a : Word) (v : Byte), s.cart.mapper = .mapper0 → 0x8000 ≤ a →
    s.memWrite a v = s.noteWrite v) ∧
  (∀ (s : State) (r : Mapper1) (a b : Word) (v : Byte), s.cart.mapper = .mapper1 r →
    0x6000 ≤ a → a ≤ 0x7FFF → 0x6000 ≤ b → b ≤ 0x7FFF →
    s.memRead a = { value := r.prgRam.read (a.toNat - 0x6000), state := s } ∧
    s.memWrite a v = (s.noteWrite v).setCart
      { s.cart with mapper := .mapper1 { r with prgRam := r.prgRam.write (a.toNat - 0x6000) v } } ∧
    (r.prgRam.wf 8192 = true →
      ((s.memWrite a v).memRead b).value = if a = b then v else (s.memRead b).value)) ∧
  ∀ (s : State) (a : PpuAddr) (v : Byte), a ≤ 0x1FFF →
    (∀ data, s.cart.pattern = .ram data →
      s.ppuRead a = data.read a.toNat ∧
      s.ppuWrite a v = s.setCart { s.cart with pattern := .ram (data.write a.toNat v) }) ∧
    ∀ banks data, s.cart.pattern = .rom banks data →
      s.ppuWrite a v = s ∧
      (s.cart.mapper = .mapper0 → s.ppuRead a = data.read (a.toNat % (banks * 8192))) ∧
      ∀ r : Mapper1, s.cart.mapper = .mapper1 r →
        s.ppuRead a = data.read
          ((if r.control.toNat < 16 then r.chrLo.toNat / 2 * 0x2000 + a.toNat
            else if a.toNat < 0x1000 then r.chrLo.toNat * 0x1000 + a.toNat
            else r.chrHi.toNat * 0x1000 + a.toNat % 0x1000) % (banks * 8192))

/-- No tick changes what the cartridge and the launch fixed: PRG ROM, its bank count, CHR ROM, the mirroring
hint, the mapper's kind, the parameters and the host's controller snapshots (R7, R49, R96, R529). That offsets are
reduced modulo the sizes, in R529, is the spec's decision D29; no clause rests on it. -/
def Obligations.LaunchDataIsFixed : Prop :=
  ∀ s t : State, step s = .next t →
    t.cart.prg = s.cart.prg ∧ t.cart.prgBanks = s.cart.prgBanks ∧ t.cart.hint = s.cart.hint ∧
    t.params = s.params ∧ t.controller0 = s.controller0 ∧ t.controller1 = s.controller1 ∧
    (∀ banks data, s.cart.pattern = .rom banks data → t.cart.pattern = .rom banks data) ∧
    (s.cart.mapper = .mapper0 → t.cart.mapper = .mapper0) ∧
    (∀ r, s.cart.mapper = .mapper1 r → ∃ r', t.cart.mapper = .mapper1 r')

/-! ### Reset -/

/-- R600 with the values of R52: what a reset sets, from any state, and what it keeps: the registers from the
parameters, `PC` from the vector as the reset mapper shows it, `cyc` 8, every device register and counter at its
value in numbers, the mapper's request cleared, every memory, the open bus and all else of the cartridge unchanged.
All but the CPU's line and the vector are the spec's decisions D2, D3, D11, D13 to D16, D26, D29. -/
def Obligations.ResetValues : Prop :=
  ∀ s : State, ∃ (t : State) (lo hi : Byte), hostReset s = t ∧
    s.cart.reset.cpuRead 0xFFFC = some lo ∧ s.cart.reset.cpuRead 0xFFFD = some hi ∧
    t.cpu = { a := s.params.resetA, x := s.params.resetX, y := s.params.resetY, s := s.params.resetS,
              p := (s.params.resetP &&& 0xCF) ||| 0x20, pc := wordOf lo hi, cyc := 8 } ∧
    t.clock = 0 ∧ t.dma = { enable := false, wait := true, page := 0, index := 0, data := 0 } ∧
    t.ctrlShift0 = 0 ∧ t.ctrlShift1 = 0 ∧
    t.ppu = { s.ppu with
      nmiPending := false, scanline := 0, cycle := 0, control := 0, mask := 0
      vblank := false, sprite0 := false, overflow := false
      vram := 0, tram := 0, fineX := 0, addrLatch := false, dataBuffer := 0, oamAddr := 0
      bgNextId := 0, bgNextAttr := 0, bgNextLsb := 0, bgNextMsb := 0
      shPatLo := 0, shPatHi := 0, shAttLo := 0, shAttHi := 0, frameComplete := false } ∧
    (∀ (env : Envelope) (pulse : Pulse),
      env = { start := false, loop := false, const := false, vol := 0, div := 0, decay := 0 } →
      pulse = { enable := false, duty := 0, seqPos := 0, timer := 0, timerReload := 0, length := 0, env := env
                sweep := { enable := false, period := 0, negate := false, shift := 0, reload := false, div := 0 } } →
      t.apu = { clock := 0, seqCount := 0, pulse1 := pulse, pulse2 := pulse
                noise := { enable := false, length := 0, env := env, mode := false, period := 0, timer := 0
                           lfsr := 1 } }) ∧
    t.ram = s.ram ∧ t.openBus = s.openBus ∧
    (s.cart.mapper = .mapper0 → t.cart = { s.cart with irqState := false }) ∧
    (∀ r, s.cart.mapper = .mapper1 r →
      t.cart = { s.cart with
        irqState := false
        mapper := .mapper1 { load := 0, count := 0, control := 0x1C, chrLo := 0, chrHi := 0, prg := 0,
                             prgRam := r.prgRam } }) ∧
    t.controller0 = s.controller0 ∧ t.controller1 = s.controller1 ∧ t.params = s.params

/-- R603: from a reset, 24 ticks pass before the first instruction: the registers stay, and the tick that
starts with count 24 is an instruction boundary, no earlier one is. The spec derives it from its R600; that a reset
clears the count and the DMA controller is its decisions D15 and D16. -/
def Obligations.FirstInstruction : Prop :=
  ∀ s : State,
    (∃ t, core.run 24 (hostReset s) = .next t ∧ t.clock = 24 ∧ t.dma.enable = false ∧
      t.cpu = { (hostReset s).cpu with cyc := 0 } ∧ t.ram = s.ram) ∧
    ∀ n t, n < 24 → core.run n (hostReset s) = .next t →
      ¬(t.clock % 3 = 0 ∧ t.dma.enable = false ∧ t.cpu.cyc = 0)

/-! ### Invariants -/

/-- Every step keeps every memory in canonical form inside its size, and every pixel a 6-bit index (R34, R44,
R45, R49, R50). That a pixel is an index is the spec's decision D23 (R45), Mapper1's PRG-RAM its decision D29 (R50). -/
def Obligations.StepKeepsMemories : Prop :=
  ∀ s t : State, s.memoriesWf = true → s.frameWf = true → step s = .next t →
    t.memoriesWf = true ∧ t.frameWf = true

/-- R27: every step keeps bit 5 of `P` at 1 and bit 4 at 0, whatever is pulled from the stack. Bit 4 is the
spec's reading, decision D3. -/
def Obligations.StepKeepsStatusBits : Prop :=
  ∀ s t : State, s.statusWf = true → step s = .next t → t.statusWf = true

/-- Every step keeps the counters in their ranges and the units in the states R355, R435, R465, R490, R527 and
R562 allow: among them, no NMI request outlives its tick and the noise register never becomes 0. Of these the bound
on `cyc` is the spec's decision D40 (R31), the APU's count equal to the tick count its D17 (R470), a silenced
channel's length 0 its D18 (R465), the noise register its D19 (R490), the sprite bits its D24 (R435), the idle
DMA controller its D16 (R355) and Mapper1's state its D29 (R50), all under log entry 20; that no
mapper request stands is R527 (log entry 12). -/
def Obligations.StepKeepsCountersAndUnits : Prop :=
  ∀ s t : State, s.countersWf = true → s.unitsWf = true → step s = .next t →
    t.countersWf = true ∧ t.unitsWf = true

/-- The state after reset meets the whole invariant (log entries 1 to 6 name the values the spec leaves open;
the invariant's own clauses do not depend on them). That `P` is loaded with bit 4 clear is the spec's decision D3
(R27), the reset values of R600 its decisions D2, D14, D16, D26 and D29 (log entry 20). -/
def Obligations.ResetMeetsInvariant : Prop := State.reset.Inv
end

