-- ==== Sys2Proof/Laws/Bits.lean ====
section
/-! SUPPORT. Laws of the byte and address helpers. -/

namespace Sys2Proof

/-- A word is its two bytes. -/
@[simp] theorem wordOf_lowByte_highByte (w : Word) : wordOf (lowByte w) (highByte w) = w := by
  refine BitVec.eq_of_getLsbD_eq fun i hi => ?_
  simp only [wordOf, lowByte, highByte, BitVec.getLsbD_append, BitVec.getLsbD_extractLsb']
  by_cases h : i < 8
  · simp [h]
  · simp [h, show i - 8 < 8 by omega, show 8 + (i - 8) = i by omega]

@[simp] theorem lowByte_wordOf (lo hi : Byte) : lowByte (wordOf lo hi) = lo := by
  refine BitVec.eq_of_getLsbD_eq fun i h => ?_
  simp only [wordOf, lowByte, BitVec.getLsbD_append, BitVec.getLsbD_extractLsb']
  simp [h]

@[simp] theorem highByte_wordOf (lo hi : Byte) : highByte (wordOf lo hi) = hi := by
  refine BitVec.eq_of_getLsbD_eq fun i h => ?_
  simp only [wordOf, highByte, BitVec.getLsbD_append, BitVec.getLsbD_extractLsb']
  simp [h, show ¬8 + i < 8 by omega]

theorem wordOf_toNat (lo hi : Byte) : (wordOf lo hi).toNat = hi.toNat * 256 + lo.toNat := by
  unfold wordOf
  rw [BitVec.toNat_append, ← Nat.shiftLeft_add_eq_or_of_lt lo.isLt, Nat.shiftLeft_eq]

theorem highByte_toNat (w : Word) : (highByte w).toNat = w.toNat / 256 := by
  have := w.isLt
  simp only [highByte, BitVec.extractLsb'_toNat, Nat.shiftRight_eq_div_pow]
  omega

theorem lowByte_toNat (w : Word) : (lowByte w).toNat = w.toNat % 256 := by
  simp [lowByte, BitVec.extractLsb'_toNat]

@[simp] theorem zext16_toNat (v : Byte) : (zext16 v).toNat = v.toNat := by
  have := v.isLt
  simp [zext16]
  omega

namespace Machine

theorem ramIndex_toNat (a : Word) : ramIndex a = a.toNat % 2048 := by
  have : (0x07FF : Word).toNat = 2 ^ 11 - 1 := rfl
  rw [ramIndex, BitVec.toNat_and, this, Nat.and_two_pow_sub_one_eq_mod]

theorem ramIndex_lt (a : Word) : ramIndex a < 2048 := by
  rw [ramIndex_toNat]
  omega

theorem prgRamIndex_lt (a : Word) : prgRamIndex a < 8192 := by
  have : (0x1FFF : Word).toNat = 2 ^ 13 - 1 := rfl
  rw [prgRamIndex, BitVec.toNat_and, this, Nat.and_two_pow_sub_one_eq_mod]
  omega

theorem stackAddr_toNat (s : Byte) : (stackAddr s).toNat = 256 + s.toNat := by
  have := s.isLt
  simp only [stackAddr, BitVec.toNat_add, zext16_toNat]
  simp
  omega

/-- The stack page lies in RAM (R25). -/
theorem stackAddr_le (s : Byte) : stackAddr s ≤ 0x1FFF := by
  have := s.isLt
  rw [BitVec.le_def, stackAddr_toNat]
  simp
  omega

theorem ramIndex_stackAddr (s : Byte) : ramIndex (stackAddr s) = 256 + s.toNat := by
  have := s.isLt
  rw [ramIndex_toNat, stackAddr_toNat]
  omega

/-- The zero page lies in RAM (R86). -/
theorem zext16_le (b : Byte) : zext16 b ≤ 0x1FFF := by
  have := b.isLt
  rw [BitVec.le_def, zext16_toNat]
  simp
  omega

theorem ramIndex_zext16 (b : Byte) : ramIndex (zext16 b) = b.toNat := by
  have := b.isLt
  rw [ramIndex_toNat, zext16_toNat]
  omega

end Machine

end Sys2Proof
end

