-- ==== Sys2Proof/Laws/State.lean ====
section
/-! SUPPORT. One lemma per field per update of the state, each true by `rfl`: no proof unfolds a record
update. A CPU register's update is read through `cpu.<register>`, a device's through its own field. -/

namespace Sys2Proof.Machine

@[simp] theorem State.setA_a (s : State) (v : Byte) : (s.setA v).cpu.a = v := rfl
@[simp] theorem State.setA_x (s : State) (v : Byte) : (s.setA v).cpu.x = s.cpu.x := rfl
@[simp] theorem State.setA_y (s : State) (v : Byte) : (s.setA v).cpu.y = s.cpu.y := rfl
@[simp] theorem State.setA_s (s : State) (v : Byte) : (s.setA v).cpu.s = s.cpu.s := rfl
@[simp] theorem State.setA_p (s : State) (v : Byte) : (s.setA v).cpu.p = s.cpu.p := rfl
@[simp] theorem State.setA_pc (s : State) (v : Byte) : (s.setA v).cpu.pc = s.cpu.pc := rfl
@[simp] theorem State.setA_cyc (s : State) (v : Byte) : (s.setA v).cpu.cyc = s.cpu.cyc := rfl
@[simp] theorem State.setA_ram (s : State) (v : Byte) : (s.setA v).ram = s.ram := rfl
@[simp] theorem State.setA_openBus (s : State) (v : Byte) : (s.setA v).openBus = s.openBus := rfl
@[simp] theorem State.setA_ctrlShift0 (s : State) (v : Byte) : (s.setA v).ctrlShift0 = s.ctrlShift0 := rfl
@[simp] theorem State.setA_ctrlShift1 (s : State) (v : Byte) : (s.setA v).ctrlShift1 = s.ctrlShift1 := rfl
@[simp] theorem State.setA_controller0 (s : State) (v : Byte) : (s.setA v).controller0 = s.controller0 := rfl
@[simp] theorem State.setA_controller1 (s : State) (v : Byte) : (s.setA v).controller1 = s.controller1 := rfl
@[simp] theorem State.setA_clock (s : State) (v : Byte) : (s.setA v).clock = s.clock := rfl
@[simp] theorem State.setA_dma (s : State) (v : Byte) : (s.setA v).dma = s.dma := rfl
@[simp] theorem State.setA_ppu (s : State) (v : Byte) : (s.setA v).ppu = s.ppu := rfl
@[simp] theorem State.setA_apu (s : State) (v : Byte) : (s.setA v).apu = s.apu := rfl
@[simp] theorem State.setA_cart (s : State) (v : Byte) : (s.setA v).cart = s.cart := rfl
@[simp] theorem State.setA_draws (s : State) (v : Byte) : (s.setA v).draws = s.draws := rfl
@[simp] theorem State.setA_writes (s : State) (v : Byte) : (s.setA v).writes = s.writes := rfl
@[simp] theorem State.setA_params (s : State) (v : Byte) : (s.setA v).params = s.params := rfl
@[simp] theorem State.setX_a (s : State) (v : Byte) : (s.setX v).cpu.a = s.cpu.a := rfl
@[simp] theorem State.setX_x (s : State) (v : Byte) : (s.setX v).cpu.x = v := rfl
@[simp] theorem State.setX_y (s : State) (v : Byte) : (s.setX v).cpu.y = s.cpu.y := rfl
@[simp] theorem State.setX_s (s : State) (v : Byte) : (s.setX v).cpu.s = s.cpu.s := rfl
@[simp] theorem State.setX_p (s : State) (v : Byte) : (s.setX v).cpu.p = s.cpu.p := rfl
@[simp] theorem State.setX_pc (s : State) (v : Byte) : (s.setX v).cpu.pc = s.cpu.pc := rfl
@[simp] theorem State.setX_cyc (s : State) (v : Byte) : (s.setX v).cpu.cyc = s.cpu.cyc := rfl
@[simp] theorem State.setX_ram (s : State) (v : Byte) : (s.setX v).ram = s.ram := rfl
@[simp] theorem State.setX_openBus (s : State) (v : Byte) : (s.setX v).openBus = s.openBus := rfl
@[simp] theorem State.setX_ctrlShift0 (s : State) (v : Byte) : (s.setX v).ctrlShift0 = s.ctrlShift0 := rfl
@[simp] theorem State.setX_ctrlShift1 (s : State) (v : Byte) : (s.setX v).ctrlShift1 = s.ctrlShift1 := rfl
@[simp] theorem State.setX_controller0 (s : State) (v : Byte) : (s.setX v).controller0 = s.controller0 := rfl
@[simp] theorem State.setX_controller1 (s : State) (v : Byte) : (s.setX v).controller1 = s.controller1 := rfl
@[simp] theorem State.setX_clock (s : State) (v : Byte) : (s.setX v).clock = s.clock := rfl
@[simp] theorem State.setX_dma (s : State) (v : Byte) : (s.setX v).dma = s.dma := rfl
@[simp] theorem State.setX_ppu (s : State) (v : Byte) : (s.setX v).ppu = s.ppu := rfl
@[simp] theorem State.setX_apu (s : State) (v : Byte) : (s.setX v).apu = s.apu := rfl
@[simp] theorem State.setX_cart (s : State) (v : Byte) : (s.setX v).cart = s.cart := rfl
@[simp] theorem State.setX_draws (s : State) (v : Byte) : (s.setX v).draws = s.draws := rfl
@[simp] theorem State.setX_writes (s : State) (v : Byte) : (s.setX v).writes = s.writes := rfl
@[simp] theorem State.setX_params (s : State) (v : Byte) : (s.setX v).params = s.params := rfl
@[simp] theorem State.setY_a (s : State) (v : Byte) : (s.setY v).cpu.a = s.cpu.a := rfl
@[simp] theorem State.setY_x (s : State) (v : Byte) : (s.setY v).cpu.x = s.cpu.x := rfl
@[simp] theorem State.setY_y (s : State) (v : Byte) : (s.setY v).cpu.y = v := rfl
@[simp] theorem State.setY_s (s : State) (v : Byte) : (s.setY v).cpu.s = s.cpu.s := rfl
@[simp] theorem State.setY_p (s : State) (v : Byte) : (s.setY v).cpu.p = s.cpu.p := rfl
@[simp] theorem State.setY_pc (s : State) (v : Byte) : (s.setY v).cpu.pc = s.cpu.pc := rfl
@[simp] theorem State.setY_cyc (s : State) (v : Byte) : (s.setY v).cpu.cyc = s.cpu.cyc := rfl
@[simp] theorem State.setY_ram (s : State) (v : Byte) : (s.setY v).ram = s.ram := rfl
@[simp] theorem State.setY_openBus (s : State) (v : Byte) : (s.setY v).openBus = s.openBus := rfl
@[simp] theorem State.setY_ctrlShift0 (s : State) (v : Byte) : (s.setY v).ctrlShift0 = s.ctrlShift0 := rfl
@[simp] theorem State.setY_ctrlShift1 (s : State) (v : Byte) : (s.setY v).ctrlShift1 = s.ctrlShift1 := rfl
@[simp] theorem State.setY_controller0 (s : State) (v : Byte) : (s.setY v).controller0 = s.controller0 := rfl
@[simp] theorem State.setY_controller1 (s : State) (v : Byte) : (s.setY v).controller1 = s.controller1 := rfl
@[simp] theorem State.setY_clock (s : State) (v : Byte) : (s.setY v).clock = s.clock := rfl
@[simp] theorem State.setY_dma (s : State) (v : Byte) : (s.setY v).dma = s.dma := rfl
@[simp] theorem State.setY_ppu (s : State) (v : Byte) : (s.setY v).ppu = s.ppu := rfl
@[simp] theorem State.setY_apu (s : State) (v : Byte) : (s.setY v).apu = s.apu := rfl
@[simp] theorem State.setY_cart (s : State) (v : Byte) : (s.setY v).cart = s.cart := rfl
@[simp] theorem State.setY_draws (s : State) (v : Byte) : (s.setY v).draws = s.draws := rfl
@[simp] theorem State.setY_writes (s : State) (v : Byte) : (s.setY v).writes = s.writes := rfl
@[simp] theorem State.setY_params (s : State) (v : Byte) : (s.setY v).params = s.params := rfl
@[simp] theorem State.setS_a (s : State) (v : Byte) : (s.setS v).cpu.a = s.cpu.a := rfl
@[simp] theorem State.setS_x (s : State) (v : Byte) : (s.setS v).cpu.x = s.cpu.x := rfl
@[simp] theorem State.setS_y (s : State) (v : Byte) : (s.setS v).cpu.y = s.cpu.y := rfl
@[simp] theorem State.setS_s (s : State) (v : Byte) : (s.setS v).cpu.s = v := rfl
@[simp] theorem State.setS_p (s : State) (v : Byte) : (s.setS v).cpu.p = s.cpu.p := rfl
@[simp] theorem State.setS_pc (s : State) (v : Byte) : (s.setS v).cpu.pc = s.cpu.pc := rfl
@[simp] theorem State.setS_cyc (s : State) (v : Byte) : (s.setS v).cpu.cyc = s.cpu.cyc := rfl
@[simp] theorem State.setS_ram (s : State) (v : Byte) : (s.setS v).ram = s.ram := rfl
@[simp] theorem State.setS_openBus (s : State) (v : Byte) : (s.setS v).openBus = s.openBus := rfl
@[simp] theorem State.setS_ctrlShift0 (s : State) (v : Byte) : (s.setS v).ctrlShift0 = s.ctrlShift0 := rfl
@[simp] theorem State.setS_ctrlShift1 (s : State) (v : Byte) : (s.setS v).ctrlShift1 = s.ctrlShift1 := rfl
@[simp] theorem State.setS_controller0 (s : State) (v : Byte) : (s.setS v).controller0 = s.controller0 := rfl
@[simp] theorem State.setS_controller1 (s : State) (v : Byte) : (s.setS v).controller1 = s.controller1 := rfl
@[simp] theorem State.setS_clock (s : State) (v : Byte) : (s.setS v).clock = s.clock := rfl
@[simp] theorem State.setS_dma (s : State) (v : Byte) : (s.setS v).dma = s.dma := rfl
@[simp] theorem State.setS_ppu (s : State) (v : Byte) : (s.setS v).ppu = s.ppu := rfl
@[simp] theorem State.setS_apu (s : State) (v : Byte) : (s.setS v).apu = s.apu := rfl
@[simp] theorem State.setS_cart (s : State) (v : Byte) : (s.setS v).cart = s.cart := rfl
@[simp] theorem State.setS_draws (s : State) (v : Byte) : (s.setS v).draws = s.draws := rfl
@[simp] theorem State.setS_writes (s : State) (v : Byte) : (s.setS v).writes = s.writes := rfl
@[simp] theorem State.setS_params (s : State) (v : Byte) : (s.setS v).params = s.params := rfl
@[simp] theorem State.setP_a (s : State) (v : Byte) : (s.setP v).cpu.a = s.cpu.a := rfl
@[simp] theorem State.setP_x (s : State) (v : Byte) : (s.setP v).cpu.x = s.cpu.x := rfl
@[simp] theorem State.setP_y (s : State) (v : Byte) : (s.setP v).cpu.y = s.cpu.y := rfl
@[simp] theorem State.setP_s (s : State) (v : Byte) : (s.setP v).cpu.s = s.cpu.s := rfl
@[simp] theorem State.setP_p (s : State) (v : Byte) : (s.setP v).cpu.p = v := rfl
@[simp] theorem State.setP_pc (s : State) (v : Byte) : (s.setP v).cpu.pc = s.cpu.pc := rfl
@[simp] theorem State.setP_cyc (s : State) (v : Byte) : (s.setP v).cpu.cyc = s.cpu.cyc := rfl
@[simp] theorem State.setP_ram (s : State) (v : Byte) : (s.setP v).ram = s.ram := rfl
@[simp] theorem State.setP_openBus (s : State) (v : Byte) : (s.setP v).openBus = s.openBus := rfl
@[simp] theorem State.setP_ctrlShift0 (s : State) (v : Byte) : (s.setP v).ctrlShift0 = s.ctrlShift0 := rfl
@[simp] theorem State.setP_ctrlShift1 (s : State) (v : Byte) : (s.setP v).ctrlShift1 = s.ctrlShift1 := rfl
@[simp] theorem State.setP_controller0 (s : State) (v : Byte) : (s.setP v).controller0 = s.controller0 := rfl
@[simp] theorem State.setP_controller1 (s : State) (v : Byte) : (s.setP v).controller1 = s.controller1 := rfl
@[simp] theorem State.setP_clock (s : State) (v : Byte) : (s.setP v).clock = s.clock := rfl
@[simp] theorem State.setP_dma (s : State) (v : Byte) : (s.setP v).dma = s.dma := rfl
@[simp] theorem State.setP_ppu (s : State) (v : Byte) : (s.setP v).ppu = s.ppu := rfl
@[simp] theorem State.setP_apu (s : State) (v : Byte) : (s.setP v).apu = s.apu := rfl
@[simp] theorem State.setP_cart (s : State) (v : Byte) : (s.setP v).cart = s.cart := rfl
@[simp] theorem State.setP_draws (s : State) (v : Byte) : (s.setP v).draws = s.draws := rfl
@[simp] theorem State.setP_writes (s : State) (v : Byte) : (s.setP v).writes = s.writes := rfl
@[simp] theorem State.setP_params (s : State) (v : Byte) : (s.setP v).params = s.params := rfl
@[simp] theorem State.setPc_a (s : State) (w : Word) : (s.setPc w).cpu.a = s.cpu.a := rfl
@[simp] theorem State.setPc_x (s : State) (w : Word) : (s.setPc w).cpu.x = s.cpu.x := rfl
@[simp] theorem State.setPc_y (s : State) (w : Word) : (s.setPc w).cpu.y = s.cpu.y := rfl
@[simp] theorem State.setPc_s (s : State) (w : Word) : (s.setPc w).cpu.s = s.cpu.s := rfl
@[simp] theorem State.setPc_p (s : State) (w : Word) : (s.setPc w).cpu.p = s.cpu.p := rfl
@[simp] theorem State.setPc_pc (s : State) (w : Word) : (s.setPc w).cpu.pc = w := rfl
@[simp] theorem State.setPc_cyc (s : State) (w : Word) : (s.setPc w).cpu.cyc = s.cpu.cyc := rfl
@[simp] theorem State.setPc_ram (s : State) (w : Word) : (s.setPc w).ram = s.ram := rfl
@[simp] theorem State.setPc_openBus (s : State) (w : Word) : (s.setPc w).openBus = s.openBus := rfl
@[simp] theorem State.setPc_ctrlShift0 (s : State) (w : Word) : (s.setPc w).ctrlShift0 = s.ctrlShift0 := rfl
@[simp] theorem State.setPc_ctrlShift1 (s : State) (w : Word) : (s.setPc w).ctrlShift1 = s.ctrlShift1 := rfl
@[simp] theorem State.setPc_controller0 (s : State) (w : Word) : (s.setPc w).controller0 = s.controller0 := rfl
@[simp] theorem State.setPc_controller1 (s : State) (w : Word) : (s.setPc w).controller1 = s.controller1 := rfl
@[simp] theorem State.setPc_clock (s : State) (w : Word) : (s.setPc w).clock = s.clock := rfl
@[simp] theorem State.setPc_dma (s : State) (w : Word) : (s.setPc w).dma = s.dma := rfl
@[simp] theorem State.setPc_ppu (s : State) (w : Word) : (s.setPc w).ppu = s.ppu := rfl
@[simp] theorem State.setPc_apu (s : State) (w : Word) : (s.setPc w).apu = s.apu := rfl
@[simp] theorem State.setPc_cart (s : State) (w : Word) : (s.setPc w).cart = s.cart := rfl
@[simp] theorem State.setPc_draws (s : State) (w : Word) : (s.setPc w).draws = s.draws := rfl
@[simp] theorem State.setPc_writes (s : State) (w : Word) : (s.setPc w).writes = s.writes := rfl
@[simp] theorem State.setPc_params (s : State) (w : Word) : (s.setPc w).params = s.params := rfl
@[simp] theorem State.setCyc_a (s : State) (n : Nat) : (s.setCyc n).cpu.a = s.cpu.a := rfl
@[simp] theorem State.setCyc_x (s : State) (n : Nat) : (s.setCyc n).cpu.x = s.cpu.x := rfl
@[simp] theorem State.setCyc_y (s : State) (n : Nat) : (s.setCyc n).cpu.y = s.cpu.y := rfl
@[simp] theorem State.setCyc_s (s : State) (n : Nat) : (s.setCyc n).cpu.s = s.cpu.s := rfl
@[simp] theorem State.setCyc_p (s : State) (n : Nat) : (s.setCyc n).cpu.p = s.cpu.p := rfl
@[simp] theorem State.setCyc_pc (s : State) (n : Nat) : (s.setCyc n).cpu.pc = s.cpu.pc := rfl
@[simp] theorem State.setCyc_cyc (s : State) (n : Nat) : (s.setCyc n).cpu.cyc = n := rfl
@[simp] theorem State.setCyc_ram (s : State) (n : Nat) : (s.setCyc n).ram = s.ram := rfl
@[simp] theorem State.setCyc_openBus (s : State) (n : Nat) : (s.setCyc n).openBus = s.openBus := rfl
@[simp] theorem State.setCyc_ctrlShift0 (s : State) (n : Nat) : (s.setCyc n).ctrlShift0 = s.ctrlShift0 := rfl
@[simp] theorem State.setCyc_ctrlShift1 (s : State) (n : Nat) : (s.setCyc n).ctrlShift1 = s.ctrlShift1 := rfl
@[simp] theorem State.setCyc_controller0 (s : State) (n : Nat) : (s.setCyc n).controller0 = s.controller0 := rfl
@[simp] theorem State.setCyc_controller1 (s : State) (n : Nat) : (s.setCyc n).controller1 = s.controller1 := rfl
@[simp] theorem State.setCyc_clock (s : State) (n : Nat) : (s.setCyc n).clock = s.clock := rfl
@[simp] theorem State.setCyc_dma (s : State) (n : Nat) : (s.setCyc n).dma = s.dma := rfl
@[simp] theorem State.setCyc_ppu (s : State) (n : Nat) : (s.setCyc n).ppu = s.ppu := rfl
@[simp] theorem State.setCyc_apu (s : State) (n : Nat) : (s.setCyc n).apu = s.apu := rfl
@[simp] theorem State.setCyc_cart (s : State) (n : Nat) : (s.setCyc n).cart = s.cart := rfl
@[simp] theorem State.setCyc_draws (s : State) (n : Nat) : (s.setCyc n).draws = s.draws := rfl
@[simp] theorem State.setCyc_writes (s : State) (n : Nat) : (s.setCyc n).writes = s.writes := rfl
@[simp] theorem State.setCyc_params (s : State) (n : Nat) : (s.setCyc n).params = s.params := rfl
@[simp] theorem State.setRam_cpu (s : State) (m : Memory) : (s.setRam m).cpu = s.cpu := rfl
@[simp] theorem State.setRam_ram (s : State) (m : Memory) : (s.setRam m).ram = m := rfl
@[simp] theorem State.setRam_openBus (s : State) (m : Memory) : (s.setRam m).openBus = s.openBus := rfl
@[simp] theorem State.setRam_ctrlShift0 (s : State) (m : Memory) : (s.setRam m).ctrlShift0 = s.ctrlShift0 := rfl
@[simp] theorem State.setRam_ctrlShift1 (s : State) (m : Memory) : (s.setRam m).ctrlShift1 = s.ctrlShift1 := rfl
@[simp] theorem State.setRam_controller0 (s : State) (m : Memory) : (s.setRam m).controller0 = s.controller0 := rfl
@[simp] theorem State.setRam_controller1 (s : State) (m : Memory) : (s.setRam m).controller1 = s.controller1 := rfl
@[simp] theorem State.setRam_clock (s : State) (m : Memory) : (s.setRam m).clock = s.clock := rfl
@[simp] theorem State.setRam_dma (s : State) (m : Memory) : (s.setRam m).dma = s.dma := rfl
@[simp] theorem State.setRam_ppu (s : State) (m : Memory) : (s.setRam m).ppu = s.ppu := rfl
@[simp] theorem State.setRam_apu (s : State) (m : Memory) : (s.setRam m).apu = s.apu := rfl
@[simp] theorem State.setRam_cart (s : State) (m : Memory) : (s.setRam m).cart = s.cart := rfl
@[simp] theorem State.setRam_draws (s : State) (m : Memory) : (s.setRam m).draws = s.draws := rfl
@[simp] theorem State.setRam_writes (s : State) (m : Memory) : (s.setRam m).writes = s.writes := rfl
@[simp] theorem State.setRam_params (s : State) (m : Memory) : (s.setRam m).params = s.params := rfl
@[simp] theorem State.noteWrite_cpu (s : State) (v : Byte) : (s.noteWrite v).cpu = s.cpu := rfl
@[simp] theorem State.noteWrite_ram (s : State) (v : Byte) : (s.noteWrite v).ram = s.ram := rfl
@[simp] theorem State.noteWrite_openBus (s : State) (v : Byte) : (s.noteWrite v).openBus = v := rfl
@[simp] theorem State.noteWrite_ctrlShift0 (s : State) (v : Byte) : (s.noteWrite v).ctrlShift0 = s.ctrlShift0 := rfl
@[simp] theorem State.noteWrite_ctrlShift1 (s : State) (v : Byte) : (s.noteWrite v).ctrlShift1 = s.ctrlShift1 := rfl
@[simp] theorem State.noteWrite_controller0 (s : State) (v : Byte) : (s.noteWrite v).controller0 = s.controller0 := rfl
@[simp] theorem State.noteWrite_controller1 (s : State) (v : Byte) : (s.noteWrite v).controller1 = s.controller1 := rfl
@[simp] theorem State.noteWrite_clock (s : State) (v : Byte) : (s.noteWrite v).clock = s.clock := rfl
@[simp] theorem State.noteWrite_dma (s : State) (v : Byte) : (s.noteWrite v).dma = s.dma := rfl
@[simp] theorem State.noteWrite_ppu (s : State) (v : Byte) : (s.noteWrite v).ppu = s.ppu := rfl
@[simp] theorem State.noteWrite_apu (s : State) (v : Byte) : (s.noteWrite v).apu = s.apu := rfl
@[simp] theorem State.noteWrite_cart (s : State) (v : Byte) : (s.noteWrite v).cart = s.cart := rfl
@[simp] theorem State.noteWrite_draws (s : State) (v : Byte) : (s.noteWrite v).draws = s.draws := rfl
@[simp] theorem State.noteWrite_writes (s : State) (v : Byte) : (s.noteWrite v).writes = s.writes + 1 := rfl
@[simp] theorem State.noteWrite_params (s : State) (v : Byte) : (s.noteWrite v).params = s.params := rfl
@[simp] theorem State.setCtrlShift0_cpu (s : State) (v : Byte) : (s.setCtrlShift0 v).cpu = s.cpu := rfl
@[simp] theorem State.setCtrlShift0_ram (s : State) (v : Byte) : (s.setCtrlShift0 v).ram = s.ram := rfl
@[simp] theorem State.setCtrlShift0_openBus (s : State) (v : Byte) : (s.setCtrlShift0 v).openBus = s.openBus := rfl
@[simp] theorem State.setCtrlShift0_ctrlShift0 (s : State) (v : Byte) : (s.setCtrlShift0 v).ctrlShift0 = v := rfl
@[simp] theorem State.setCtrlShift0_ctrlShift1 (s : State) (v : Byte) : (s.setCtrlShift0 v).ctrlShift1 = s.ctrlShift1 := rfl
@[simp] theorem State.setCtrlShift0_controller0 (s : State) (v : Byte) : (s.setCtrlShift0 v).controller0 = s.controller0 := rfl
@[simp] theorem State.setCtrlShift0_controller1 (s : State) (v : Byte) : (s.setCtrlShift0 v).controller1 = s.controller1 := rfl
@[simp] theorem State.setCtrlShift0_clock (s : State) (v : Byte) : (s.setCtrlShift0 v).clock = s.clock := rfl
@[simp] theorem State.setCtrlShift0_dma (s : State) (v : Byte) : (s.setCtrlShift0 v).dma = s.dma := rfl
@[simp] theorem State.setCtrlShift0_ppu (s : State) (v : Byte) : (s.setCtrlShift0 v).ppu = s.ppu := rfl
@[simp] theorem State.setCtrlShift0_apu (s : State) (v : Byte) : (s.setCtrlShift0 v).apu = s.apu := rfl
@[simp] theorem State.setCtrlShift0_cart (s : State) (v : Byte) : (s.setCtrlShift0 v).cart = s.cart := rfl
@[simp] theorem State.setCtrlShift0_draws (s : State) (v : Byte) : (s.setCtrlShift0 v).draws = s.draws := rfl
@[simp] theorem State.setCtrlShift0_writes (s : State) (v : Byte) : (s.setCtrlShift0 v).writes = s.writes := rfl
@[simp] theorem State.setCtrlShift0_params (s : State) (v : Byte) : (s.setCtrlShift0 v).params = s.params := rfl
@[simp] theorem State.setCtrlShift1_cpu (s : State) (v : Byte) : (s.setCtrlShift1 v).cpu = s.cpu := rfl
@[simp] theorem State.setCtrlShift1_ram (s : State) (v : Byte) : (s.setCtrlShift1 v).ram = s.ram := rfl
@[simp] theorem State.setCtrlShift1_openBus (s : State) (v : Byte) : (s.setCtrlShift1 v).openBus = s.openBus := rfl
@[simp] theorem State.setCtrlShift1_ctrlShift0 (s : State) (v : Byte) : (s.setCtrlShift1 v).ctrlShift0 = s.ctrlShift0 := rfl
@[simp] theorem State.setCtrlShift1_ctrlShift1 (s : State) (v : Byte) : (s.setCtrlShift1 v).ctrlShift1 = v := rfl
@[simp] theorem State.setCtrlShift1_controller0 (s : State) (v : Byte) : (s.setCtrlShift1 v).controller0 = s.controller0 := rfl
@[simp] theorem State.setCtrlShift1_controller1 (s : State) (v : Byte) : (s.setCtrlShift1 v).controller1 = s.controller1 := rfl
@[simp] theorem State.setCtrlShift1_clock (s : State) (v : Byte) : (s.setCtrlShift1 v).clock = s.clock := rfl
@[simp] theorem State.setCtrlShift1_dma (s : State) (v : Byte) : (s.setCtrlShift1 v).dma = s.dma := rfl
@[simp] theorem State.setCtrlShift1_ppu (s : State) (v : Byte) : (s.setCtrlShift1 v).ppu = s.ppu := rfl
@[simp] theorem State.setCtrlShift1_apu (s : State) (v : Byte) : (s.setCtrlShift1 v).apu = s.apu := rfl
@[simp] theorem State.setCtrlShift1_cart (s : State) (v : Byte) : (s.setCtrlShift1 v).cart = s.cart := rfl
@[simp] theorem State.setCtrlShift1_draws (s : State) (v : Byte) : (s.setCtrlShift1 v).draws = s.draws := rfl
@[simp] theorem State.setCtrlShift1_writes (s : State) (v : Byte) : (s.setCtrlShift1 v).writes = s.writes := rfl
@[simp] theorem State.setCtrlShift1_params (s : State) (v : Byte) : (s.setCtrlShift1 v).params = s.params := rfl
@[simp] theorem State.setController0_cpu (s : State) (v : Byte) : (s.setController0 v).cpu = s.cpu := rfl
@[simp] theorem State.setController0_ram (s : State) (v : Byte) : (s.setController0 v).ram = s.ram := rfl
@[simp] theorem State.setController0_openBus (s : State) (v : Byte) : (s.setController0 v).openBus = s.openBus := rfl
@[simp] theorem State.setController0_ctrlShift0 (s : State) (v : Byte) : (s.setController0 v).ctrlShift0 = s.ctrlShift0 := rfl
@[simp] theorem State.setController0_ctrlShift1 (s : State) (v : Byte) : (s.setController0 v).ctrlShift1 = s.ctrlShift1 := rfl
@[simp] theorem State.setController0_controller0 (s : State) (v : Byte) : (s.setController0 v).controller0 = v := rfl
@[simp] theorem State.setController0_controller1 (s : State) (v : Byte) : (s.setController0 v).controller1 = s.controller1 := rfl
@[simp] theorem State.setController0_clock (s : State) (v : Byte) : (s.setController0 v).clock = s.clock := rfl
@[simp] theorem State.setController0_dma (s : State) (v : Byte) : (s.setController0 v).dma = s.dma := rfl
@[simp] theorem State.setController0_ppu (s : State) (v : Byte) : (s.setController0 v).ppu = s.ppu := rfl
@[simp] theorem State.setController0_apu (s : State) (v : Byte) : (s.setController0 v).apu = s.apu := rfl
@[simp] theorem State.setController0_cart (s : State) (v : Byte) : (s.setController0 v).cart = s.cart := rfl
@[simp] theorem State.setController0_draws (s : State) (v : Byte) : (s.setController0 v).draws = s.draws := rfl
@[simp] theorem State.setController0_writes (s : State) (v : Byte) : (s.setController0 v).writes = s.writes := rfl
@[simp] theorem State.setController0_params (s : State) (v : Byte) : (s.setController0 v).params = s.params := rfl
@[simp] theorem State.setController1_cpu (s : State) (v : Byte) : (s.setController1 v).cpu = s.cpu := rfl
@[simp] theorem State.setController1_ram (s : State) (v : Byte) : (s.setController1 v).ram = s.ram := rfl
@[simp] theorem State.setController1_openBus (s : State) (v : Byte) : (s.setController1 v).openBus = s.openBus := rfl
@[simp] theorem State.setController1_ctrlShift0 (s : State) (v : Byte) : (s.setController1 v).ctrlShift0 = s.ctrlShift0 := rfl
@[simp] theorem State.setController1_ctrlShift1 (s : State) (v : Byte) : (s.setController1 v).ctrlShift1 = s.ctrlShift1 := rfl
@[simp] theorem State.setController1_controller0 (s : State) (v : Byte) : (s.setController1 v).controller0 = s.controller0 := rfl
@[simp] theorem State.setController1_controller1 (s : State) (v : Byte) : (s.setController1 v).controller1 = v := rfl
@[simp] theorem State.setController1_clock (s : State) (v : Byte) : (s.setController1 v).clock = s.clock := rfl
@[simp] theorem State.setController1_dma (s : State) (v : Byte) : (s.setController1 v).dma = s.dma := rfl
@[simp] theorem State.setController1_ppu (s : State) (v : Byte) : (s.setController1 v).ppu = s.ppu := rfl
@[simp] theorem State.setController1_apu (s : State) (v : Byte) : (s.setController1 v).apu = s.apu := rfl
@[simp] theorem State.setController1_cart (s : State) (v : Byte) : (s.setController1 v).cart = s.cart := rfl
@[simp] theorem State.setController1_draws (s : State) (v : Byte) : (s.setController1 v).draws = s.draws := rfl
@[simp] theorem State.setController1_writes (s : State) (v : Byte) : (s.setController1 v).writes = s.writes := rfl
@[simp] theorem State.setController1_params (s : State) (v : Byte) : (s.setController1 v).params = s.params := rfl
@[simp] theorem State.setClock_cpu (s : State) (n : Nat) : (s.setClock n).cpu = s.cpu := rfl
@[simp] theorem State.setClock_ram (s : State) (n : Nat) : (s.setClock n).ram = s.ram := rfl
@[simp] theorem State.setClock_openBus (s : State) (n : Nat) : (s.setClock n).openBus = s.openBus := rfl
@[simp] theorem State.setClock_ctrlShift0 (s : State) (n : Nat) : (s.setClock n).ctrlShift0 = s.ctrlShift0 := rfl
@[simp] theorem State.setClock_ctrlShift1 (s : State) (n : Nat) : (s.setClock n).ctrlShift1 = s.ctrlShift1 := rfl
@[simp] theorem State.setClock_controller0 (s : State) (n : Nat) : (s.setClock n).controller0 = s.controller0 := rfl
@[simp] theorem State.setClock_controller1 (s : State) (n : Nat) : (s.setClock n).controller1 = s.controller1 := rfl
@[simp] theorem State.setClock_clock (s : State) (n : Nat) : (s.setClock n).clock = n := rfl
@[simp] theorem State.setClock_dma (s : State) (n : Nat) : (s.setClock n).dma = s.dma := rfl
@[simp] theorem State.setClock_ppu (s : State) (n : Nat) : (s.setClock n).ppu = s.ppu := rfl
@[simp] theorem State.setClock_apu (s : State) (n : Nat) : (s.setClock n).apu = s.apu := rfl
@[simp] theorem State.setClock_cart (s : State) (n : Nat) : (s.setClock n).cart = s.cart := rfl
@[simp] theorem State.setClock_draws (s : State) (n : Nat) : (s.setClock n).draws = s.draws := rfl
@[simp] theorem State.setClock_writes (s : State) (n : Nat) : (s.setClock n).writes = s.writes := rfl
@[simp] theorem State.setClock_params (s : State) (n : Nat) : (s.setClock n).params = s.params := rfl
@[simp] theorem State.setDma_cpu (s : State) (d : Dma) : (s.setDma d).cpu = s.cpu := rfl
@[simp] theorem State.setDma_ram (s : State) (d : Dma) : (s.setDma d).ram = s.ram := rfl
@[simp] theorem State.setDma_openBus (s : State) (d : Dma) : (s.setDma d).openBus = s.openBus := rfl
@[simp] theorem State.setDma_ctrlShift0 (s : State) (d : Dma) : (s.setDma d).ctrlShift0 = s.ctrlShift0 := rfl
@[simp] theorem State.setDma_ctrlShift1 (s : State) (d : Dma) : (s.setDma d).ctrlShift1 = s.ctrlShift1 := rfl
@[simp] theorem State.setDma_controller0 (s : State) (d : Dma) : (s.setDma d).controller0 = s.controller0 := rfl
@[simp] theorem State.setDma_controller1 (s : State) (d : Dma) : (s.setDma d).controller1 = s.controller1 := rfl
@[simp] theorem State.setDma_clock (s : State) (d : Dma) : (s.setDma d).clock = s.clock := rfl
@[simp] theorem State.setDma_dma (s : State) (d : Dma) : (s.setDma d).dma = d := rfl
@[simp] theorem State.setDma_ppu (s : State) (d : Dma) : (s.setDma d).ppu = s.ppu := rfl
@[simp] theorem State.setDma_apu (s : State) (d : Dma) : (s.setDma d).apu = s.apu := rfl
@[simp] theorem State.setDma_cart (s : State) (d : Dma) : (s.setDma d).cart = s.cart := rfl
@[simp] theorem State.setDma_draws (s : State) (d : Dma) : (s.setDma d).draws = s.draws := rfl
@[simp] theorem State.setDma_writes (s : State) (d : Dma) : (s.setDma d).writes = s.writes := rfl
@[simp] theorem State.setDma_params (s : State) (d : Dma) : (s.setDma d).params = s.params := rfl
@[simp] theorem State.setPpu_cpu (s : State) (p : Ppu) : (s.setPpu p).cpu = s.cpu := rfl
@[simp] theorem State.setPpu_ram (s : State) (p : Ppu) : (s.setPpu p).ram = s.ram := rfl
@[simp] theorem State.setPpu_openBus (s : State) (p : Ppu) : (s.setPpu p).openBus = s.openBus := rfl
@[simp] theorem State.setPpu_ctrlShift0 (s : State) (p : Ppu) : (s.setPpu p).ctrlShift0 = s.ctrlShift0 := rfl
@[simp] theorem State.setPpu_ctrlShift1 (s : State) (p : Ppu) : (s.setPpu p).ctrlShift1 = s.ctrlShift1 := rfl
@[simp] theorem State.setPpu_controller0 (s : State) (p : Ppu) : (s.setPpu p).controller0 = s.controller0 := rfl
@[simp] theorem State.setPpu_controller1 (s : State) (p : Ppu) : (s.setPpu p).controller1 = s.controller1 := rfl
@[simp] theorem State.setPpu_clock (s : State) (p : Ppu) : (s.setPpu p).clock = s.clock := rfl
@[simp] theorem State.setPpu_dma (s : State) (p : Ppu) : (s.setPpu p).dma = s.dma := rfl
@[simp] theorem State.setPpu_ppu (s : State) (p : Ppu) : (s.setPpu p).ppu = p := rfl
@[simp] theorem State.setPpu_apu (s : State) (p : Ppu) : (s.setPpu p).apu = s.apu := rfl
@[simp] theorem State.setPpu_cart (s : State) (p : Ppu) : (s.setPpu p).cart = s.cart := rfl
@[simp] theorem State.setPpu_draws (s : State) (p : Ppu) : (s.setPpu p).draws = s.draws := rfl
@[simp] theorem State.setPpu_writes (s : State) (p : Ppu) : (s.setPpu p).writes = s.writes := rfl
@[simp] theorem State.setPpu_params (s : State) (p : Ppu) : (s.setPpu p).params = s.params := rfl
@[simp] theorem State.setApu_cpu (s : State) (u : Apu) : (s.setApu u).cpu = s.cpu := rfl
@[simp] theorem State.setApu_ram (s : State) (u : Apu) : (s.setApu u).ram = s.ram := rfl
@[simp] theorem State.setApu_openBus (s : State) (u : Apu) : (s.setApu u).openBus = s.openBus := rfl
@[simp] theorem State.setApu_ctrlShift0 (s : State) (u : Apu) : (s.setApu u).ctrlShift0 = s.ctrlShift0 := rfl
@[simp] theorem State.setApu_ctrlShift1 (s : State) (u : Apu) : (s.setApu u).ctrlShift1 = s.ctrlShift1 := rfl
@[simp] theorem State.setApu_controller0 (s : State) (u : Apu) : (s.setApu u).controller0 = s.controller0 := rfl
@[simp] theorem State.setApu_controller1 (s : State) (u : Apu) : (s.setApu u).controller1 = s.controller1 := rfl
@[simp] theorem State.setApu_clock (s : State) (u : Apu) : (s.setApu u).clock = s.clock := rfl
@[simp] theorem State.setApu_dma (s : State) (u : Apu) : (s.setApu u).dma = s.dma := rfl
@[simp] theorem State.setApu_ppu (s : State) (u : Apu) : (s.setApu u).ppu = s.ppu := rfl
@[simp] theorem State.setApu_apu (s : State) (u : Apu) : (s.setApu u).apu = u := rfl
@[simp] theorem State.setApu_cart (s : State) (u : Apu) : (s.setApu u).cart = s.cart := rfl
@[simp] theorem State.setApu_draws (s : State) (u : Apu) : (s.setApu u).draws = s.draws := rfl
@[simp] theorem State.setApu_writes (s : State) (u : Apu) : (s.setApu u).writes = s.writes := rfl
@[simp] theorem State.setApu_params (s : State) (u : Apu) : (s.setApu u).params = s.params := rfl
@[simp] theorem State.setCart_cpu (s : State) (c : Cartridge) : (s.setCart c).cpu = s.cpu := rfl
@[simp] theorem State.setCart_ram (s : State) (c : Cartridge) : (s.setCart c).ram = s.ram := rfl
@[simp] theorem State.setCart_openBus (s : State) (c : Cartridge) : (s.setCart c).openBus = s.openBus := rfl
@[simp] theorem State.setCart_ctrlShift0 (s : State) (c : Cartridge) : (s.setCart c).ctrlShift0 = s.ctrlShift0 := rfl
@[simp] theorem State.setCart_ctrlShift1 (s : State) (c : Cartridge) : (s.setCart c).ctrlShift1 = s.ctrlShift1 := rfl
@[simp] theorem State.setCart_controller0 (s : State) (c : Cartridge) : (s.setCart c).controller0 = s.controller0 := rfl
@[simp] theorem State.setCart_controller1 (s : State) (c : Cartridge) : (s.setCart c).controller1 = s.controller1 := rfl
@[simp] theorem State.setCart_clock (s : State) (c : Cartridge) : (s.setCart c).clock = s.clock := rfl
@[simp] theorem State.setCart_dma (s : State) (c : Cartridge) : (s.setCart c).dma = s.dma := rfl
@[simp] theorem State.setCart_ppu (s : State) (c : Cartridge) : (s.setCart c).ppu = s.ppu := rfl
@[simp] theorem State.setCart_apu (s : State) (c : Cartridge) : (s.setCart c).apu = s.apu := rfl
@[simp] theorem State.setCart_cart (s : State) (c : Cartridge) : (s.setCart c).cart = c := rfl
@[simp] theorem State.setCart_draws (s : State) (c : Cartridge) : (s.setCart c).draws = s.draws := rfl
@[simp] theorem State.setCart_writes (s : State) (c : Cartridge) : (s.setCart c).writes = s.writes := rfl
@[simp] theorem State.setCart_params (s : State) (c : Cartridge) : (s.setCart c).params = s.params := rfl
@[simp] theorem State.setDraws_cpu (s : State) (n : Nat) : (s.setDraws n).cpu = s.cpu := rfl
@[simp] theorem State.setDraws_ram (s : State) (n : Nat) : (s.setDraws n).ram = s.ram := rfl
@[simp] theorem State.setDraws_openBus (s : State) (n : Nat) : (s.setDraws n).openBus = s.openBus := rfl
@[simp] theorem State.setDraws_ctrlShift0 (s : State) (n : Nat) : (s.setDraws n).ctrlShift0 = s.ctrlShift0 := rfl
@[simp] theorem State.setDraws_ctrlShift1 (s : State) (n : Nat) : (s.setDraws n).ctrlShift1 = s.ctrlShift1 := rfl
@[simp] theorem State.setDraws_controller0 (s : State) (n : Nat) : (s.setDraws n).controller0 = s.controller0 := rfl
@[simp] theorem State.setDraws_controller1 (s : State) (n : Nat) : (s.setDraws n).controller1 = s.controller1 := rfl
@[simp] theorem State.setDraws_clock (s : State) (n : Nat) : (s.setDraws n).clock = s.clock := rfl
@[simp] theorem State.setDraws_dma (s : State) (n : Nat) : (s.setDraws n).dma = s.dma := rfl
@[simp] theorem State.setDraws_ppu (s : State) (n : Nat) : (s.setDraws n).ppu = s.ppu := rfl
@[simp] theorem State.setDraws_apu (s : State) (n : Nat) : (s.setDraws n).apu = s.apu := rfl
@[simp] theorem State.setDraws_cart (s : State) (n : Nat) : (s.setDraws n).cart = s.cart := rfl
@[simp] theorem State.setDraws_draws (s : State) (n : Nat) : (s.setDraws n).draws = n := rfl
@[simp] theorem State.setDraws_writes (s : State) (n : Nat) : (s.setDraws n).writes = s.writes := rfl
@[simp] theorem State.setDraws_params (s : State) (n : Nat) : (s.setDraws n).params = s.params := rfl

/-- `onlyIf` with a true condition acts. -/
@[simp] theorem State.onlyIf_true (s : State) (f : State → State) : s.onlyIf true f = f s := rfl

/-- `onlyIf` with a false condition does nothing. -/
@[simp] theorem State.onlyIf_false (s : State) (f : State → State) : s.onlyIf false f = s := rfl

/-- What holds of a state and of `f` of it holds of `onlyIf`. -/
theorem State.onlyIf_cases {P : State → Prop} {s : State} {c : Bool} {f : State → State}
    (h : P s) (hf : P (f s)) : P (s.onlyIf c f) := by
  cases c
  · exact h
  · exact hf

end Sys2Proof.Machine
end

