-- ==== Sys2Proof/Laws/Ops.lean ====
section
/-! SUPPORT. For each shared operation, what it does and what it leaves alone. -/

namespace Sys2Proof.Machine

/-- An address at or below 0x1FFF is in no cartridge range. -/
theorem inPrgRam_of_ram {a : Word} (h : a ≤ 0x1FFF) : inPrgRam a = false := by
  have : ¬(0x6000 : Word) ≤ a := by bv_omega
  simp only [inPrgRam, this, decide_false, Bool.false_and]

theorem not_rom_of_ram {a : Word} (h : a ≤ 0x1FFF) : ¬(0x8000 : Word) ≤ a := by bv_omega

/-- No mapper claims RAM (R82). -/
theorem Cartridge.cpuRead_ram (c : Cartridge) {a : Word} (h : a ≤ 0x1FFF) : c.cpuRead a = none := by
  cases c with
  | mk mapper _ _ _ _ _ =>
    cases mapper <;>
      simp only [Cartridge.cpuRead, inPrgRam_of_ram h, not_rom_of_ram h, if_false, Bool.false_eq_true]

theorem Cartridge.cpuWrite_ram (c : Cartridge) {a : Word} (v : Byte) (h : a ≤ 0x1FFF) :
    c.cpuWrite a v = none := by
  cases c with
  | mk mapper _ _ _ _ _ =>
    cases mapper <;>
      simp only [Cartridge.cpuWrite, inPrgRam_of_ram h, not_rom_of_ram h, if_false, Bool.false_eq_true]

/-- A read of RAM (R84, R86). -/
theorem State.memRead_ram (s : State) {a : Word} (h : a ≤ 0x1FFF) :
    s.memRead a = { value := s.ram.read (ramIndex a), state := s } := by
  simp only [State.memRead, Cartridge.cpuRead_ram _ h, h, if_true]

/-- A write of RAM (R85, R86). -/
theorem State.memWrite_ram (s : State) {a : Word} (v : Byte) (h : a ≤ 0x1FFF) :
    s.memWrite a v = (s.noteWrite v).setRam (s.ram.write (ramIndex a) v) := by
  simp only [State.memWrite, State.decodeWrite, Cartridge.cpuWrite_ram _ v h, h, if_true]
  rfl

/-- No mapper claims an address below 0x6000 (R521, R531). -/
theorem Cartridge.cpuRead_low (c : Cartridge) {a : Word} (h : a < 0x6000) : c.cpuRead a = none := by
  have h1 : inPrgRam a = false := by
    have : ¬(0x6000 : Word) ≤ a := by bv_omega
    simp only [inPrgRam, this, decide_false, Bool.false_and]
  have h2 : ¬(0x8000 : Word) ≤ a := by bv_omega
  simp only [Cartridge.cpuRead]
  cases c.mapper <;> simp only [h1, h2, if_false, Bool.false_eq_true]

theorem Cartridge.cpuWrite_low (c : Cartridge) {a : Word} (v : Byte) (h : a < 0x6000) :
    c.cpuWrite a v = none := by
  have h1 : inPrgRam a = false := by
    have : ¬(0x6000 : Word) ≤ a := by bv_omega
    simp only [inPrgRam, this, decide_false, Bool.false_and]
  have h2 : ¬(0x8000 : Word) ≤ a := by bv_omega
  simp only [Cartridge.cpuWrite]
  cases c.mapper <;> simp only [h1, h2, if_false, Bool.false_eq_true]

/-- The register number of an address in the PPU's window (R87, R382). -/
theorem and_seven_toNat (a : Word) : (a &&& 7).toNat = a.toNat % 8 := by
  rw [BitVec.toNat_and, show (7 : Word).toNat = 2 ^ 3 - 1 from rfl, Nat.and_two_pow_sub_one_eq_mod]

/-- A write to the PPU's window (R85, R87). -/
theorem State.memWrite_ppuWindow (s : State) {a : Word} (v : Byte) (h1 : 0x2000 ≤ a) (h2 : a ≤ 0x3FFF) :
    s.memWrite a v = (s.noteWrite v).ppuRegWrite (a.toNat % 8) v := by
  have h3 : a < 0x6000 := by bv_omega
  have h4 : ¬a ≤ 0x1FFF := by bv_omega
  simp only [State.memWrite, State.decodeWrite, Cartridge.cpuWrite_low _ _ h3, h2, if_true,
    and_seven_toNat]
  exact if_neg h4

/-- A read from the PPU's window (R84, R87). -/
theorem State.memRead_ppuWindow (s : State) {a : Word} (h1 : 0x2000 ≤ a) (h2 : a ≤ 0x3FFF) :
    s.memRead a = s.ppuRegRead (a.toNat % 8) := by
  have h3 : a < 0x6000 := by bv_omega
  have h4 : ¬a ≤ 0x1FFF := by bv_omega
  simp only [State.memRead, Cartridge.cpuRead_low _ h3, h2, if_true, and_seven_toNat]
  exact if_neg h4

/-- A read of a write-only PPU register, at any mirror: one byte between two bus writes, no side effect (R91,
R382). -/
theorem State.memRead_writeOnly (s : State) {a : Word} (h1 : 0x2000 ≤ a) (h2 : a ≤ 0x3FFF)
    (h3 : a.toNat % 8 ≠ 2) (h4 : a.toNat % 8 ≠ 4) (h5 : a.toNat % 8 ≠ 7) :
    s.memRead a = { value := Config.writeOnlyByte (a.toNat % 8) s.writes, state := s } := by
  rw [s.memRead_ppuWindow h1 h2]
  simp only [State.ppuRegRead, State.writeOnlyRead]

/-- A push (R25). -/
theorem State.push_eq (s : State) (v : Byte) :
    s.push v = ((s.noteWrite v).setRam (s.ram.write (256 + s.cpu.s.toNat) v)).setS (s.cpu.s - 1) := by
  simp only [State.push, State.memWrite_ram _ _ (stackAddr_le _), ramIndex_stackAddr]
  rfl

/-- A pull (R25). -/
theorem State.pull_eq (s : State) :
    s.pull = { value := s.ram.read (256 + (s.cpu.s + 1).toNat), state := s.setS (s.cpu.s + 1) } := by
  simp only [State.pull, State.memRead_ram _ (stackAddr_le _), ramIndex_stackAddr]
  rfl

/-- What a bus read can change: the controller shifters, three PPU latches and `vram`, and the model's count
of free bytes; every other part of the machine stays (R91). -/
theorem State.memRead_frame (s : State) (a : Word) :
    ∃ p n c0 c1, (s.memRead a).state =
        { s with ppu := p, draws := n, ctrlShift0 := c0, ctrlShift1 := c1 } ∧
      ∃ b l d w, p = { s.ppu with vblank := b, addrLatch := l, dataBuffer := d, vram := w } := by
  simp only [State.memRead]
  split
  · exact ⟨s.ppu, _, _, _, rfl, _, _, _, _, rfl⟩
  · split
    · exact ⟨s.ppu, _, _, _, rfl, _, _, _, _, rfl⟩
    · split
      · simp only [State.ppuRegRead]
        split
        · exact ⟨_, _, _, _, rfl, _, _, _, _, rfl⟩
        · exact ⟨s.ppu, _, _, _, rfl, _, _, _, _, rfl⟩
        · exact ⟨_, _, _, _, rfl, _, _, _, _, rfl⟩
        · exact ⟨s.ppu, _, _, _, rfl, _, _, _, _, rfl⟩
      · split
        · exact ⟨s.ppu, _, _, _, rfl, _, _, _, _, rfl⟩
        · split
          · exact ⟨s.ppu, _, _, _, rfl, _, _, _, _, rfl⟩
          · split
            · exact ⟨s.ppu, _, _, _, rfl, _, _, _, _, rfl⟩
            · split
              · exact ⟨s.ppu, _, _, _, rfl, _, _, _, _, rfl⟩
              · exact ⟨s.ppu, _, _, _, rfl, _, _, _, _, rfl⟩

@[simp] theorem State.memRead_cpu (s : State) (a : Word) : (s.memRead a).state.cpu = s.cpu := by
  obtain ⟨_, _, _, _, h, _⟩ := s.memRead_frame a; rw [h]
@[simp] theorem State.memRead_keepsRam (s : State) (a : Word) : (s.memRead a).state.ram = s.ram := by
  obtain ⟨_, _, _, _, h, _⟩ := s.memRead_frame a; rw [h]
@[simp] theorem State.memRead_openBus (s : State) (a : Word) : (s.memRead a).state.openBus = s.openBus := by
  obtain ⟨_, _, _, _, h, _⟩ := s.memRead_frame a; rw [h]
@[simp] theorem State.memRead_writes (s : State) (a : Word) : (s.memRead a).state.writes = s.writes := by
  obtain ⟨_, _, _, _, h, _⟩ := s.memRead_frame a; rw [h]
@[simp] theorem State.memRead_controller0 (s : State) (a : Word) :
    (s.memRead a).state.controller0 = s.controller0 := by
  obtain ⟨_, _, _, _, h, _⟩ := s.memRead_frame a; rw [h]
@[simp] theorem State.memRead_controller1 (s : State) (a : Word) :
    (s.memRead a).state.controller1 = s.controller1 := by
  obtain ⟨_, _, _, _, h, _⟩ := s.memRead_frame a; rw [h]
@[simp] theorem State.memRead_clock (s : State) (a : Word) : (s.memRead a).state.clock = s.clock := by
  obtain ⟨_, _, _, _, h, _⟩ := s.memRead_frame a; rw [h]
@[simp] theorem State.memRead_dma (s : State) (a : Word) : (s.memRead a).state.dma = s.dma := by
  obtain ⟨_, _, _, _, h, _⟩ := s.memRead_frame a; rw [h]
@[simp] theorem State.memRead_apu (s : State) (a : Word) : (s.memRead a).state.apu = s.apu := by
  obtain ⟨_, _, _, _, h, _⟩ := s.memRead_frame a; rw [h]
@[simp] theorem State.memRead_cart (s : State) (a : Word) : (s.memRead a).state.cart = s.cart := by
  obtain ⟨_, _, _, _, h, _⟩ := s.memRead_frame a; rw [h]
@[simp] theorem State.memRead_params (s : State) (a : Word) : (s.memRead a).state.params = s.params := by
  obtain ⟨_, _, _, _, h, _⟩ := s.memRead_frame a; rw [h]

/-- A read of memory has no side effect: it answers what `peek` shows. -/
theorem State.memRead_of_peek {s : State} {a : Word} {v : Byte} (h : s.peek a = some v) :
    s.memRead a = { value := v, state := s } := by
  simp only [State.peek] at h
  simp only [State.memRead]
  cases hw : s.cart.cpuRead a with
  | some w =>
    rw [hw] at h
    cases h
    rfl
  | none =>
    rw [hw] at h
    by_cases ha : a ≤ 0x1FFF
    · rw [if_pos ha] at h
      cases h
      exact if_pos ha
    · rw [if_neg ha] at h
      cases h

/-- The cartridge's part of a PPU write changes CHR-RAM only (R525). -/
theorem Cartridge.ppuWrite_frame {c d : Cartridge} {a : PpuAddr} {v : Byte} (h : c.ppuWrite a v = some d) :
    ∃ pattern, d = { c with pattern := pattern } := by
  simp only [Cartridge.ppuWrite] at h
  repeat' split at h
  all_goals first | cases h; exact ⟨_, rfl⟩ | cases h

/-- What a write of the PPU's address space can change (R111): the nametables, the palette and CHR-RAM. -/
theorem State.ppuWrite_frame (s : State) (a : PpuAddr) (v : Byte) :
    ∃ nt0 nt1 pal pattern, s.ppuWrite a v =
      { s with ppu := { s.ppu with nt0 := nt0, nt1 := nt1, pal := pal }, cart := { s.cart with pattern := pattern } } := by
  simp only [State.ppuWrite]
  split
  · exact ⟨_, _, _, _, rfl⟩
  · split
    · next c h =>
      obtain ⟨_, rfl⟩ := Cartridge.ppuWrite_frame h
      exact ⟨_, _, _, _, rfl⟩
    · split
      · simp only [Ppu.ntWrite]
        split <;> exact ⟨_, _, _, _, rfl⟩
      · exact ⟨_, _, _, _, rfl⟩

/-- What a bus write can change (R85): never the CPU, the tick count, the host's snapshots, the parameters,
the free bytes or PRG ROM; and it is counted once. -/
theorem State.memWrite_frame (s : State) (a : Word) (v : Byte) :
    (s.memWrite a v).cpu = s.cpu ∧ (s.memWrite a v).openBus = v ∧ (s.memWrite a v).clock = s.clock ∧
    (s.memWrite a v).controller0 = s.controller0 ∧ (s.memWrite a v).controller1 = s.controller1 ∧
    (s.memWrite a v).params = s.params ∧ (s.memWrite a v).draws = s.draws ∧
    (s.memWrite a v).writes = s.writes + 1 ∧
    (s.memWrite a v).cart.prg = s.cart.prg ∧ (s.memWrite a v).cart.prgBanks = s.cart.prgBanks ∧
    (s.memWrite a v).cart.hint = s.cart.hint := by
  have hc : ∀ c, s.cart.cpuWrite a v = some c →
      c.prg = s.cart.prg ∧ c.prgBanks = s.cart.prgBanks ∧ c.hint = s.cart.hint := by
    intro c h
    simp only [Cartridge.cpuWrite] at h
    split at h
    · split at h
      · cases h; exact ⟨rfl, rfl, rfl⟩
      · cases h
    · split at h
      · cases h; exact ⟨rfl, rfl, rfl⟩
      · split at h
        · cases h; exact ⟨rfl, rfl, rfl⟩
        · cases h
  simp only [State.memWrite, State.decodeWrite]
  split
  · next c h =>
    obtain ⟨h1, h2, h3⟩ := hc c h
    exact ⟨rfl, rfl, rfl, rfl, rfl, rfl, rfl, rfl, h1, h2, h3⟩
  · split
    · exact ⟨rfl, rfl, rfl, rfl, rfl, rfl, rfl, rfl, rfl, rfl, rfl⟩
    · split
      · simp only [State.ppuRegWrite]
        split
        all_goals first
          | exact ⟨rfl, rfl, rfl, rfl, rfl, rfl, rfl, rfl, rfl, rfl, rfl⟩
          | (obtain ⟨_, _, _, _, h⟩ := (s.noteWrite v).ppuWrite_frame (s.noteWrite v).ppu.dataAddr v
             simp only [State.dataWrite, h]
             exact ⟨rfl, rfl, rfl, rfl, rfl, rfl, rfl, rfl, rfl, rfl, rfl⟩)
      · repeat' split
        all_goals exact ⟨rfl, rfl, rfl, rfl, rfl, rfl, rfl, rfl, rfl, rfl, rfl⟩

/-- A bus write does not depend on the CPU registers, and keeps them. -/
theorem State.memWrite_withCpu (s : State) (c : Cpu) (a : Word) (v : Byte) :
    ({ s with cpu := c } : State).memWrite a v = { s.memWrite a v with cpu := c } := by
  simp only [State.memWrite, State.decodeWrite, State.noteWrite]
  split
  · rfl
  · split
    · rfl
    · split
      · simp only [State.ppuRegWrite]
        split <;> try rfl
        simp only [State.dataWrite, State.ppuWrite]
        split
        · rfl
        · split
          · rfl
          · split <;> rfl
      · repeat' split
        all_goals rfl

/-- A bus read does not depend on the CPU registers, and keeps them. -/
theorem State.memRead_withCpu (s : State) (c : Cpu) (a : Word) :
    ({ s with cpu := c } : State).memRead a =
      { value := (s.memRead a).value, state := { (s.memRead a).state with cpu := c } } := by
  simp only [State.memRead]
  split
  · rfl
  · split
    · rfl
    · split
      · simp only [State.ppuRegRead]
        split <;> rfl
      · repeat' split
        all_goals rfl

end Sys2Proof.Machine
end

