-- ==== Sys2Proof/Laws/Exec.lean ====
section
/-! SUPPORT. For each mnemonic, the one shared operation that `exec` runs on the operand or address its
addressing mode gives, at the cost of its table row (R135, R160). -/

namespace Sys2Proof.Machine

theorem exec_lda {i : Instr} (h : i.mnemonic = .lda) (s : State) :
    exec i s = opLda (s.operand i) (i.baseCycles s.params.illegalCycles) := by
  cases i <;> first
    | (cases h; done)
    | rfl
    | (simp only [State.operand, State.locate, Instr.mode, operandWord, encode, List.getD_cons_succ,
        List.getD_cons_zero, wordOf_lowByte_highByte]; rfl)

theorem exec_ldx {i : Instr} (h : i.mnemonic = .ldx) (s : State) :
    exec i s = opLdx (s.operand i) (i.baseCycles s.params.illegalCycles) := by
  cases i <;> first
    | (cases h; done)
    | rfl
    | (simp only [State.operand, State.locate, Instr.mode, operandWord, encode, List.getD_cons_succ,
        List.getD_cons_zero, wordOf_lowByte_highByte]; rfl)

theorem exec_ldy {i : Instr} (h : i.mnemonic = .ldy) (s : State) :
    exec i s = opLdy (s.operand i) (i.baseCycles s.params.illegalCycles) := by
  cases i <;> first
    | (cases h; done)
    | rfl
    | (simp only [State.operand, State.locate, Instr.mode, operandWord, encode, List.getD_cons_succ,
        List.getD_cons_zero, wordOf_lowByte_highByte]; rfl)

theorem exec_sta {i : Instr} (h : i.mnemonic = .sta) (s : State) :
    exec i s = opSta (s.locate i) (i.baseCycles s.params.illegalCycles) := by
  cases i <;> first
    | (cases h; done)
    | rfl
    | (simp only [State.locate, Instr.mode, operandWord, encode, List.getD_cons_succ,
        List.getD_cons_zero, wordOf_lowByte_highByte]; rfl)

theorem exec_stx {i : Instr} (h : i.mnemonic = .stx) (s : State) :
    exec i s = opStx (s.locate i) (i.baseCycles s.params.illegalCycles) := by
  cases i <;> first
    | (cases h; done)
    | rfl
    | (simp only [State.locate, Instr.mode, operandWord, encode, List.getD_cons_succ,
        List.getD_cons_zero, wordOf_lowByte_highByte]; rfl)

theorem exec_sty {i : Instr} (h : i.mnemonic = .sty) (s : State) :
    exec i s = opSty (s.locate i) (i.baseCycles s.params.illegalCycles) := by
  cases i <;> first
    | (cases h; done)
    | rfl
    | (simp only [State.locate, Instr.mode, operandWord, encode, List.getD_cons_succ,
        List.getD_cons_zero, wordOf_lowByte_highByte]; rfl)

theorem exec_adc {i : Instr} (h : i.mnemonic = .adc) (s : State) :
    exec i s = opAdc (s.operand i) (i.baseCycles s.params.illegalCycles) := by
  cases i <;> first
    | (cases h; done)
    | rfl
    | (simp only [State.operand, State.locate, Instr.mode, operandWord, encode, List.getD_cons_succ,
        List.getD_cons_zero, wordOf_lowByte_highByte]; rfl)

theorem exec_sbc {i : Instr} (h : i.mnemonic = .sbc) (s : State) :
    exec i s = opSbc (s.operand i) (i.baseCycles s.params.illegalCycles) := by
  cases i <;> first
    | (cases h; done)
    | rfl
    | (simp only [State.operand, State.locate, Instr.mode, operandWord, encode, List.getD_cons_succ,
        List.getD_cons_zero, wordOf_lowByte_highByte]; rfl)

theorem exec_and {i : Instr} (h : i.mnemonic = .and) (s : State) :
    exec i s = opAnd (s.operand i) (i.baseCycles s.params.illegalCycles) := by
  cases i <;> first
    | (cases h; done)
    | rfl
    | (simp only [State.operand, State.locate, Instr.mode, operandWord, encode, List.getD_cons_succ,
        List.getD_cons_zero, wordOf_lowByte_highByte]; rfl)

theorem exec_ora {i : Instr} (h : i.mnemonic = .ora) (s : State) :
    exec i s = opOra (s.operand i) (i.baseCycles s.params.illegalCycles) := by
  cases i <;> first
    | (cases h; done)
    | rfl
    | (simp only [State.operand, State.locate, Instr.mode, operandWord, encode, List.getD_cons_succ,
        List.getD_cons_zero, wordOf_lowByte_highByte]; rfl)

theorem exec_eor {i : Instr} (h : i.mnemonic = .eor) (s : State) :
    exec i s = opEor (s.operand i) (i.baseCycles s.params.illegalCycles) := by
  cases i <;> first
    | (cases h; done)
    | rfl
    | (simp only [State.operand, State.locate, Instr.mode, operandWord, encode, List.getD_cons_succ,
        List.getD_cons_zero, wordOf_lowByte_highByte]; rfl)

theorem exec_bit {i : Instr} (h : i.mnemonic = .bit) (s : State) :
    exec i s = opBit (s.operand i) (i.baseCycles s.params.illegalCycles) := by
  cases i <;> first
    | (cases h; done)
    | rfl
    | (simp only [State.operand, State.locate, Instr.mode, operandWord, encode, List.getD_cons_succ,
        List.getD_cons_zero, wordOf_lowByte_highByte]; rfl)

theorem exec_cmp {i : Instr} (h : i.mnemonic = .cmp) (s : State) :
    exec i s = opCmp (s.operand i) (i.baseCycles s.params.illegalCycles) := by
  cases i <;> first
    | (cases h; done)
    | rfl
    | (simp only [State.operand, State.locate, Instr.mode, operandWord, encode, List.getD_cons_succ,
        List.getD_cons_zero, wordOf_lowByte_highByte]; rfl)

theorem exec_cpx {i : Instr} (h : i.mnemonic = .cpx) (s : State) :
    exec i s = opCpx (s.operand i) (i.baseCycles s.params.illegalCycles) := by
  cases i <;> first
    | (cases h; done)
    | rfl
    | (simp only [State.operand, State.locate, Instr.mode, operandWord, encode, List.getD_cons_succ,
        List.getD_cons_zero, wordOf_lowByte_highByte]; rfl)

theorem exec_cpy {i : Instr} (h : i.mnemonic = .cpy) (s : State) :
    exec i s = opCpy (s.operand i) (i.baseCycles s.params.illegalCycles) := by
  cases i <;> first
    | (cases h; done)
    | rfl
    | (simp only [State.operand, State.locate, Instr.mode, operandWord, encode, List.getD_cons_succ,
        List.getD_cons_zero, wordOf_lowByte_highByte]; rfl)

theorem exec_inc {i : Instr} (h : i.mnemonic = .inc) (s : State) :
    exec i s = opInc (s.locate i) (i.baseCycles s.params.illegalCycles) := by
  cases i <;> first
    | (cases h; done)
    | rfl
    | (simp only [State.locate, Instr.mode, operandWord, encode, List.getD_cons_succ,
        List.getD_cons_zero, wordOf_lowByte_highByte]; rfl)

theorem exec_dec {i : Instr} (h : i.mnemonic = .dec) (s : State) :
    exec i s = opDec (s.locate i) (i.baseCycles s.params.illegalCycles) := by
  cases i <;> first
    | (cases h; done)
    | rfl
    | (simp only [State.locate, Instr.mode, operandWord, encode, List.getD_cons_succ,
        List.getD_cons_zero, wordOf_lowByte_highByte]; rfl)

theorem exec_asl {i : Instr} (h : i.mnemonic = .asl) (s : State) :
    exec i s = if i.mode = .imp then shiftAccumulator shiftLeft s (i.baseCycles s.params.illegalCycles)
      else shiftMemory shiftLeft (s.locate i) (i.baseCycles s.params.illegalCycles) := by
  cases i <;> first
    | (cases h; done)
    | rfl
    | (simp only [State.locate, Instr.mode, operandWord, encode, List.getD_cons_succ,
        List.getD_cons_zero, wordOf_lowByte_highByte]; rfl)

theorem exec_lsr {i : Instr} (h : i.mnemonic = .lsr) (s : State) :
    exec i s = if i.mode = .imp then shiftAccumulator shiftRight s (i.baseCycles s.params.illegalCycles)
      else shiftMemory shiftRight (s.locate i) (i.baseCycles s.params.illegalCycles) := by
  cases i <;> first
    | (cases h; done)
    | rfl
    | (simp only [State.locate, Instr.mode, operandWord, encode, List.getD_cons_succ,
        List.getD_cons_zero, wordOf_lowByte_highByte]; rfl)

theorem exec_rol {i : Instr} (h : i.mnemonic = .rol) (s : State) :
    exec i s = if i.mode = .imp then shiftAccumulator rotateLeft s (i.baseCycles s.params.illegalCycles)
      else shiftMemory rotateLeft (s.locate i) (i.baseCycles s.params.illegalCycles) := by
  cases i <;> first
    | (cases h; done)
    | rfl
    | (simp only [State.locate, Instr.mode, operandWord, encode, List.getD_cons_succ,
        List.getD_cons_zero, wordOf_lowByte_highByte]; rfl)

theorem exec_ror {i : Instr} (h : i.mnemonic = .ror) (s : State) :
    exec i s = if i.mode = .imp then shiftAccumulator rotateRight s (i.baseCycles s.params.illegalCycles)
      else shiftMemory rotateRight (s.locate i) (i.baseCycles s.params.illegalCycles) := by
  cases i <;> first
    | (cases h; done)
    | rfl
    | (simp only [State.locate, Instr.mode, operandWord, encode, List.getD_cons_succ,
        List.getD_cons_zero, wordOf_lowByte_highByte]; rfl)

theorem exec_branch {i : Instr} (h : i.mode = .rel) (s : State) :
    exec i s = branch (s.taken i) (operandByte i) s (i.baseCycles s.params.illegalCycles) := by
  cases i <;> first
    | (cases h; done)
    | rfl

theorem exec_jmp {i : Instr} (h : i.mnemonic = .jmp) (s : State) :
    exec i s = jump (s.locate i).state (s.locate i).ea (i.baseCycles s.params.illegalCycles) := by
  cases i <;> first
    | (cases h; done)
    | (simp only [State.locate, Instr.mode, operandWord, encode, List.getD_cons_succ,
        List.getD_cons_zero, wordOf_lowByte_highByte]; rfl)

end Sys2Proof.Machine
end

