-- ==== Sys2Proof/Laws/Flags.lean ====
section
/-! SUPPORT. Laws of the status register and of the flag computations. -/

namespace Sys2Proof.Machine

/-- Setting a flag of a status byte sets that flag alone. -/
theorem flagIn_withBit (p : Byte) (f g : Flag) (b : Bool) :
    flagIn (withBit p f.index b) g = if g = f then b else flagIn p g := by
  cases f <;> cases g <;> cases b <;> simp [flagIn, withBit, bitAt, Flag.index]

/-- Setting a flag of the machine sets that flag alone. -/
theorem State.flag_setFlag (s : State) (f g : Flag) (b : Bool) :
    (s.setFlag f b).flag g = if g = f then b else s.flag g := flagIn_withBit s.cpu.p f g b

@[simp] theorem State.flag_setFlag_same (s : State) (f : Flag) (b : Bool) : (s.setFlag f b).flag f = b := by
  simp [State.flag_setFlag]

/-- A flag update is an update of `P`, and of nothing else. -/
theorem State.setFlag_eq (s : State) (f : Flag) (b : Bool) :
    s.setFlag f b = s.setP (withBit s.cpu.p f.index b) := rfl

/-- Two status bytes with the same eight flags are equal. -/
theorem byte_eq_of_flags {p q : Byte} (h : ∀ f, flagIn p f = flagIn q f) : p = q := by
  have hc := h .c
  have hz := h .z
  have hi := h .i
  have hd := h .d
  have hb := h .b
  have hu := h .u
  have hv := h .v
  have hn := h .n
  simp only [flagIn, Flag.index] at hc hz hi hd hb hu hv hn
  refine BitVec.eq_of_getLsbD_eq fun i hlt => ?_
  have : i = 0 ∨ i = 1 ∨ i = 2 ∨ i = 3 ∨ i = 4 ∨ i = 5 ∨ i = 6 ∨ i = 7 := by omega
  rcases this with rfl | rfl | rfl | rfl | rfl | rfl | rfl | rfl <;> assumption

/-- Z and N after `SetZN`, and every other flag as before. -/
theorem State.flag_setZN (s : State) (v : Byte) (f : Flag) :
    (s.setZN v).flag f = if f = .n then v.getLsbD 7 else if f = .z then v == 0 else s.flag f := by
  simp only [State.setZN, State.flag_setFlag]

/-- Bit 7 of a byte, as a comparison. -/
theorem byte_bit7 (v : Byte) : v.getLsbD 7 = decide (0x80 ≤ v.toNat) := by
  have h : v.getLsbD 7 = v.msb := by simp [BitVec.msb_eq_getLsbD_last]
  rw [h, BitVec.msb_eq_decide]

theorem ZnOf_setZN (s : State) (v : Byte) : ZnOf (s.setZN v) v := by
  refine ⟨?_, ?_⟩
  · simp [State.flag_setZN, BEq.beq]
  · rw [State.flag_setZN, if_pos rfl, byte_bit7]

theorem FlagsKeptBut_setZN (s : State) (v : Byte) : FlagsKeptBut [.z, .n] s (s.setZN v) := by
  intro f hf
  simp only [List.mem_cons, List.not_mem_nil, or_false, not_or] at hf
  simp [State.flag_setZN, hf.1, hf.2]

/-- The image that a push stores: bit 4 as given, bit 5 set, the others as in `P`. -/
theorem flagIn_pushedP (p : Byte) (brk : Bool) (f : Flag) :
    flagIn (pushedP p brk) f = if f = .b then brk else if f = .u then true else flagIn p f := by
  cases f <;> cases brk <;> simp [flagIn, pushedP, Flag.index]

/-- What a pull loads: bits 4 and 5 of the byte are ignored. -/
theorem flagIn_loadedP (v : Byte) (f : Flag) :
    flagIn (loadedP v) f = if f = .b then false else if f = .u then true else flagIn v f := by
  cases f <;> simp [flagIn, loadedP, Flag.index]

/-- A pushed image, loaded back into a `P` that is as R27 says, restores it. -/
theorem loadedP_pushedP {p : Byte} {brk : Bool} (hu : flagIn p .u = true) (hb : flagIn p .b = false) :
    loadedP (pushedP p brk) = p := by
  refine byte_eq_of_flags fun f => ?_
  rw [flagIn_loadedP, flagIn_pushedP]
  cases f <;> simp [hu, hb]

/-- ADC's result as a number. -/
theorem addWithCarry_value (a m : Byte) (c : Bool) :
    (addWithCarry a m c).value.toNat = (a.toNat + m.toNat + c.toNat) % 256 := by
  simp [addWithCarry]

theorem addWithCarry_carry (a m : Byte) (c : Bool) :
    (addWithCarry a m c).carry = decide (256 ≤ a.toNat + m.toNat + c.toNat) := by
  simp only [addWithCarry, gt_iff_lt, decide_eq_decide]
  omega

/-- A mask with 0x80 tests bit 7. -/
theorem and_bit7_ne (x : Byte) : ((x &&& 0x80) != 0) = x.getLsbD 7 := by
  revert x
  decide

/-- ADC's overflow formula says that the signed sum does not fit in 8 bits. -/
theorem addWithCarry_overflow (a m : Byte) (c : Bool) :
    (addWithCarry a m c).overflow =
      decide (a.toInt + m.toInt + c.toNat < -128 ∨ 127 < a.toInt + m.toInt + (c.toNat : Int)) := by
  have ha := a.isLt
  have hm := m.isLt
  have hc : c.toNat ≤ 1 := Bool.toNat_le c
  simp only [addWithCarry, and_bit7_ne, BitVec.getLsbD_and, BitVec.getLsbD_not, BitVec.getLsbD_xor]
  rw [byte_bit7 a, byte_bit7 m, byte_bit7 (BitVec.ofNat 8 _)]
  rw [BitVec.toNat_ofNat, BitVec.toInt_eq_toNat_cond, BitVec.toInt_eq_toNat_cond]
  symm
  by_cases h1 : 128 ≤ a.toNat <;> by_cases h2 : 128 ≤ m.toNat <;>
    by_cases h3 : 128 ≤ (a.toNat + m.toNat + c.toNat) % 2 ^ 8 <;>
    simp only [h1, h2, h3, Nat.reduceLT, decide_true, decide_false, Bool.bne_true, Bool.bne_false, Bool.not_true,
      Bool.not_false, Bool.and_true, Bool.and_false, Bool.true_and, decide_eq_true_eq,
      decide_eq_false_iff_not] <;> split_ifs <;> omega

theorem subWithBorrow_eq (a m : Byte) (c : Bool) :
    subWithBorrow a m c = addWithCarry a (m ^^^ 0xFF) c := by
  simp only [subWithBorrow, addWithCarry, and_bit7_ne, Sum.mk.injEq, true_and]
  simp only [BitVec.getLsbD_and, BitVec.getLsbD_not, BitVec.getLsbD_xor]
  cases a.getLsbD 7 <;> cases m.getLsbD 7 <;>
    cases (BitVec.ofNat 8 (a.toNat + (m ^^^ 0xFF).toNat + c.toNat)).getLsbD 7 <;> simp

/-- Each shift and rotate in numbers: its result and the bit shifted out (R271 to R274). -/
theorem shiftLeft_numbers (m : Byte) (c : Bool) :
    (shiftLeft m c).value.toNat = 2 * m.toNat % 256 ∧ (shiftLeft m c).carry = decide (128 ≤ m.toNat) := by
  revert m c; decide

theorem shiftRight_numbers (m : Byte) (c : Bool) :
    (shiftRight m c).value.toNat = m.toNat / 2 ∧ (shiftRight m c).carry = decide (m.toNat % 2 = 1) := by
  revert m c; decide

theorem rotateLeft_numbers (m : Byte) (c : Bool) :
    (rotateLeft m c).value.toNat = (2 * m.toNat + c.toNat) % 256 ∧
    (rotateLeft m c).carry = decide (128 ≤ m.toNat) := by
  revert m c; decide

theorem rotateRight_numbers (m : Byte) (c : Bool) :
    (rotateRight m c).value.toNat = c.toNat * 128 + m.toNat / 2 ∧
    (rotateRight m c).carry = decide (m.toNat % 2 = 1) := by
  revert m c; decide

/-- The complement of a byte, as a number. -/
theorem xor_ff_toNat (m : Byte) : (m ^^^ 0xFF).toNat = 255 - m.toNat := by
  have : (m ^^^ 0xFF) = ~~~m := by
    rw [show (0xFF : Byte) = BitVec.allOnes 8 from rfl, BitVec.xor_allOnes]
  rw [this, BitVec.toNat_not]

end Sys2Proof.Machine
end

