-- ==== Sys2Proof/Laws/Cpu.lean ====
section
/-! SUPPORT. What the CPU-only updates leave alone, and what reading an operand leaves alone: the lemmas that
statements of an instruction's result are put together from. -/

namespace Sys2Proof.Machine

/-- A flag depends on `P` alone. -/
theorem State.flag_of_p {s t : State} (h : t.cpu.p = s.cpu.p) (f : Flag) : t.flag f = s.flag f := by
  simp only [State.flag, h]

@[simp] theorem State.flag_setA (s : State) (v : Byte) (f : Flag) : (s.setA v).flag f = s.flag f := rfl
@[simp] theorem State.flag_setX (s : State) (v : Byte) (f : Flag) : (s.setX v).flag f = s.flag f := rfl
@[simp] theorem State.flag_setY (s : State) (v : Byte) (f : Flag) : (s.setY v).flag f = s.flag f := rfl
@[simp] theorem State.flag_setS (s : State) (v : Byte) (f : Flag) : (s.setS v).flag f = s.flag f := rfl
@[simp] theorem State.flag_setPc (s : State) (w : Word) (f : Flag) : (s.setPc w).flag f = s.flag f := rfl
@[simp] theorem State.flag_setCyc (s : State) (n : Nat) (f : Flag) : (s.setCyc n).flag f = s.flag f := rfl
@[simp] theorem State.flag_charge (s : State) (n : Nat) (c e : Bool) (k : Nat) (f : Flag) : (s.charge n c e k).flag f = s.flag f := rfl
@[simp] theorem State.flag_noteWrite (s : State) (v : Byte) (f : Flag) : (s.noteWrite v).flag f = s.flag f := rfl
@[simp] theorem State.flag_setRam (s : State) (m : Memory) (f : Flag) : (s.setRam m).flag f = s.flag f := rfl
@[simp] theorem State.flag_setP (s : State) (p : Byte) (f : Flag) : (s.setP p).flag f = flagIn p f := rfl

@[simp] theorem State.setFlag_a (s : State) (f : Flag) (b : Bool) : (s.setFlag f b).cpu.a = s.cpu.a := rfl
@[simp] theorem State.setZN_a (s : State) (v : Byte) : (s.setZN v).cpu.a = s.cpu.a := rfl
@[simp] theorem State.setFlag_x (s : State) (f : Flag) (b : Bool) : (s.setFlag f b).cpu.x = s.cpu.x := rfl
@[simp] theorem State.setZN_x (s : State) (v : Byte) : (s.setZN v).cpu.x = s.cpu.x := rfl
@[simp] theorem State.setFlag_y (s : State) (f : Flag) (b : Bool) : (s.setFlag f b).cpu.y = s.cpu.y := rfl
@[simp] theorem State.setZN_y (s : State) (v : Byte) : (s.setZN v).cpu.y = s.cpu.y := rfl
@[simp] theorem State.setFlag_s (s : State) (f : Flag) (b : Bool) : (s.setFlag f b).cpu.s = s.cpu.s := rfl
@[simp] theorem State.setZN_s (s : State) (v : Byte) : (s.setZN v).cpu.s = s.cpu.s := rfl
@[simp] theorem State.setFlag_pc (s : State) (f : Flag) (b : Bool) : (s.setFlag f b).cpu.pc = s.cpu.pc := rfl
@[simp] theorem State.setZN_pc (s : State) (v : Byte) : (s.setZN v).cpu.pc = s.cpu.pc := rfl
@[simp] theorem State.setFlag_cyc (s : State) (f : Flag) (b : Bool) : (s.setFlag f b).cpu.cyc = s.cpu.cyc := rfl
@[simp] theorem State.setZN_cyc (s : State) (v : Byte) : (s.setZN v).cpu.cyc = s.cpu.cyc := rfl
@[simp] theorem State.charge_a (s : State) (n : Nat) (c e : Bool) (k : Nat) : (s.charge n c e k).cpu.a = s.cpu.a := rfl
@[simp] theorem State.charge_x (s : State) (n : Nat) (c e : Bool) (k : Nat) : (s.charge n c e k).cpu.x = s.cpu.x := rfl
@[simp] theorem State.charge_y (s : State) (n : Nat) (c e : Bool) (k : Nat) : (s.charge n c e k).cpu.y = s.cpu.y := rfl
@[simp] theorem State.charge_s (s : State) (n : Nat) (c e : Bool) (k : Nat) : (s.charge n c e k).cpu.s = s.cpu.s := rfl
@[simp] theorem State.charge_p (s : State) (n : Nat) (c e : Bool) (k : Nat) : (s.charge n c e k).cpu.p = s.cpu.p := rfl
@[simp] theorem State.charge_pc (s : State) (n : Nat) (c e : Bool) (k : Nat) : (s.charge n c e k).cpu.pc = s.cpu.pc := rfl
@[simp] theorem State.charge_cyc (s : State) (n : Nat) (c e : Bool) (k : Nat) :
    (s.charge n c e k).cpu.cyc = n + (c && e).toNat + k := rfl

theorem SameOutsideCpu.refl (s : State) : SameOutsideCpu s s := rfl
theorem SameOutsideCpu.setA {s t : State} (h : SameOutsideCpu s t) (v : Byte) : SameOutsideCpu s (t.setA v) := h
theorem SameOutsideCpu.setX {s t : State} (h : SameOutsideCpu s t) (v : Byte) : SameOutsideCpu s (t.setX v) := h
theorem SameOutsideCpu.setY {s t : State} (h : SameOutsideCpu s t) (v : Byte) : SameOutsideCpu s (t.setY v) := h
theorem SameOutsideCpu.setS {s t : State} (h : SameOutsideCpu s t) (v : Byte) : SameOutsideCpu s (t.setS v) := h
theorem SameOutsideCpu.setP {s t : State} (h : SameOutsideCpu s t) (v : Byte) : SameOutsideCpu s (t.setP v) := h
theorem SameOutsideCpu.setPc {s t : State} (h : SameOutsideCpu s t) (w : Word) : SameOutsideCpu s (t.setPc w) := h
theorem SameOutsideCpu.setCyc {s t : State} (h : SameOutsideCpu s t) (n : Nat) : SameOutsideCpu s (t.setCyc n) := h
theorem SameOutsideCpu.setFlag {s t : State} (h : SameOutsideCpu s t) (f : Flag) (b : Bool) : SameOutsideCpu s (t.setFlag f b) := h
theorem SameOutsideCpu.setZN {s t : State} (h : SameOutsideCpu s t) (v : Byte) : SameOutsideCpu s (t.setZN v) := h
theorem SameOutsideCpu.charge {s t : State} (h : SameOutsideCpu s t) (n : Nat) (c e : Bool) (k : Nat) : SameOutsideCpu s (t.charge n c e k) := h

theorem SameOutsideRam.refl (s : State) : SameOutsideRam s s := rfl
theorem SameOutsideRam.setS {s t : State} (h : SameOutsideRam s t) (v : Byte) : SameOutsideRam s (t.setS v) := h
theorem SameOutsideRam.setP {s t : State} (h : SameOutsideRam s t) (v : Byte) : SameOutsideRam s (t.setP v) := h
theorem SameOutsideRam.setPc {s t : State} (h : SameOutsideRam s t) (w : Word) : SameOutsideRam s (t.setPc w) := h
theorem SameOutsideRam.setCyc {s t : State} (h : SameOutsideRam s t) (n : Nat) : SameOutsideRam s (t.setCyc n) := h
theorem SameOutsideRam.setFlag {s t : State} (h : SameOutsideRam s t) (f : Flag) (b : Bool) : SameOutsideRam s (t.setFlag f b) := h
theorem SameOutsideRam.charge {s t : State} (h : SameOutsideRam s t) (n : Nat) (c e : Bool) (k : Nat) : SameOutsideRam s (t.charge n c e k) := h
theorem SameOutsideRam.setRam {s t : State} (h : SameOutsideRam s t) (m : Memory) : SameOutsideRam s (t.setRam m) := h
theorem SameOutsideRam.noteWrite {s t : State} (h : SameOutsideRam s t) (v : Byte) : SameOutsideRam s (t.noteWrite v) := h

/-- A push stays in RAM. -/
theorem SameOutsideRam.push {s t : State} (h : SameOutsideRam s t) (v : Byte) : SameOutsideRam s (t.push v) := by
  rw [State.push_eq]
  exact ((h.noteWrite v).setRam _).setS _

/-- Finding an effective address changes no CPU register. -/
@[simp] theorem State.locate_cpu (s : State) (i : Instr) : (s.locate i).state.cpu = s.cpu := by
  cases i <;> simp [State.locate, Instr.mode, zp0, zpx, zpy, absolute, abx, aby, indexed, indirect, izx, izy,
    zeroPagePointer, State.readPair]

/-- A pointer in the zero page is read from RAM, with no side effect (R180, R181). -/
theorem zeroPagePointer_eq (s : State) (b : Byte) :
    zeroPagePointer s b =
      { value := wordOf (s.ram.read b.toNat) (s.ram.read (b + 1).toNat), state := s } := by
  simp only [zeroPagePointer, State.readPair, State.memRead_ram _ (zext16_le _), ramIndex_zext16]

/-- Only IND reads its pointer where a read can have a side effect. -/
theorem State.locate_state (s : State) {i : Instr} (h : i.mode ≠ .ind) : (s.locate i).state = s := by
  simp only [State.locate]
  split <;> first
    | rfl
    | (next hm => exact absurd hm h)
    | simp only [izx, izy, indexed, zeroPagePointer_eq]

/-- Reading an operand changes no CPU register. -/
@[simp] theorem State.operand_cpu (s : State) (i : Instr) : (s.operand i).state.cpu = s.cpu := by
  simp only [State.operand]
  split <;> first
    | rfl
    | exact (State.memRead_cpu _ _).trans (s.locate_cpu i)

/-- Reading an operand reads no flag. -/
@[simp] theorem State.operand_flag (s : State) (i : Instr) (f : Flag) : (s.operand i).state.flag f = s.flag f :=
  State.flag_of_p (by rw [State.operand_cpu]) f

/-- Where the operand is in memory, it is read at the effective address, from an unchanged machine. -/
theorem State.operand_eq (s : State) {i : Instr} (h1 : i.mode ≠ .imp) (h2 : i.mode ≠ .imm) (h3 : i.mode ≠ .ind) :
    s.operand i = { value := (s.memRead (s.locate i).ea).value, crossed := (s.locate i).crossed,
                    state := (s.memRead (s.locate i).ea).state } := by
  have : s.operand i = (s.locate i).fetch := by
    simp only [State.operand]
    split <;> first
      | rfl
      | (next hm => exact absurd hm h1)
      | (next hm => exact absurd hm h2)
  rw [this, Located.fetch, s.locate_state h3]

end Sys2Proof.Machine
end

