-- ==== Sys2Proof/Laws/Memory.lean ====
section
/-! SUPPORT. Laws of memories: a read after a write, and the canonical form. -/

namespace Sys2Proof.Machine

theorem Memory.wfFrom_cons (size low k : Nat) (v : BitVec 8) (rest : Memory) :
    Memory.wfFrom size low ((k, v) :: rest) = true ↔
      low ≤ k ∧ k < size ∧ v ≠ unlistedByte ∧ Memory.wfFrom size (k + 1) rest = true := by
  simp [Memory.wfFrom, and_assoc]

/-- A lower starting index asks less. -/
theorem Memory.wfFrom_mono {size low low' : Nat} {m : Memory} (h : Memory.wfFrom size low m = true)
    (hl : low' ≤ low) : Memory.wfFrom size low' m = true := by
  cases m with
  | nil => rfl
  | cons c rest =>
    obtain ⟨k, v⟩ := c
    rw [Memory.wfFrom_cons] at h ⊢
    exact ⟨by omega, h.2⟩

/-- Below the first index nothing is listed. -/
theorem Memory.read_below {size low a : Nat} {m : Memory} (h : Memory.wfFrom size low m = true)
    (ha : a < low) : Memory.read m a = unlistedByte := by
  induction m generalizing low with
  | nil => rfl
  | cons c rest ih =>
    obtain ⟨k, v⟩ := c
    rw [Memory.wfFrom_cons] at h
    rw [Memory.read, if_neg (by omega)]
    exact ih h.2.2.2 (by omega)

/-- A write leaves every other index alone. -/
theorem Memory.read_write_other (m : Memory) {a b : Nat} (v : Byte) (h : b ≠ a) :
    (m.write a v).read b = m.read b := by
  induction m with
  | nil => by_cases hv : v = unlistedByte <;> simp [Memory.write, Memory.read, hv, h]
  | cons c rest ih =>
    obtain ⟨k, w⟩ := c
    by_cases h1 : a < k
    · by_cases hv : v = unlistedByte <;> simp [Memory.write, Memory.read, h1, hv, h]
    · by_cases h2 : a = k
      · subst h2
        by_cases hv : v = unlistedByte <;> simp [Memory.write, Memory.read, hv, h]
      · simp only [Memory.write, h1, h2, if_false, Memory.read, ih]

theorem Memory.read_write_same_from {size low a : Nat} {m : Memory} (v : Byte)
    (h : Memory.wfFrom size low m = true) : (m.write a v).read a = v := by
  induction m generalizing low with
  | nil => by_cases hv : v = unlistedByte <;> simp [Memory.write, Memory.read, hv]
  | cons c rest ih =>
    obtain ⟨k, w⟩ := c
    have h' := (Memory.wfFrom_cons _ _ _ _ _).1 h
    by_cases h1 : a < k
    · by_cases hv : v = unlistedByte
      · have := Memory.read_below h'.2.2.2 (show a < k + 1 by omega)
        simp [Memory.write, Memory.read, h1, hv, show a ≠ k by omega, this]
      · simp [Memory.write, Memory.read, h1, hv]
    · by_cases h2 : a = k
      · subst h2
        by_cases hv : v = unlistedByte
        · simp [Memory.write, hv, Memory.read_below h'.2.2.2 (show a < a + 1 by omega)]
        · simp [Memory.write, Memory.read, hv]
      · simp only [Memory.write, h1, h2, if_false, Memory.read, ih h'.2.2.2]

/-- A read after a write to the same index gives the byte written. -/
theorem Memory.read_write_same {size a : Nat} {m : Memory} (v : Byte) (h : m.wf size = true) :
    (m.write a v).read a = v := Memory.read_write_same_from v h

theorem Memory.write_wfFrom {size low a : Nat} {m : Memory} (v : Byte)
    (h : Memory.wfFrom size low m = true) (hl : low ≤ a) (ha : a < size) :
    Memory.wfFrom size low (m.write a v) = true := by
  induction m generalizing low with
  | nil =>
    by_cases hv : v = unlistedByte
    · simp [Memory.write, hv, Memory.wfFrom]
    · rw [Memory.write, if_neg hv, Memory.wfFrom_cons]
      exact ⟨hl, ha, hv, rfl⟩
  | cons c rest ih =>
    obtain ⟨k, w⟩ := c
    have h' := (Memory.wfFrom_cons _ _ _ _ _).1 h
    by_cases h1 : a < k
    · by_cases hv : v = unlistedByte
      · simpa [Memory.write, h1, hv] using h
      · rw [Memory.write, if_pos h1, if_neg hv, Memory.wfFrom_cons, Memory.wfFrom_cons]
        exact ⟨hl, ha, hv, by omega, h'.2⟩
    · by_cases h2 : a = k
      · subst h2
        by_cases hv : v = unlistedByte
        · simpa [Memory.write, hv] using Memory.wfFrom_mono h'.2.2.2 (show low ≤ a + 1 by omega)
        · rw [Memory.write, if_neg h1, if_pos rfl, if_neg hv, Memory.wfFrom_cons]
          exact ⟨hl, ha, hv, h'.2.2.2⟩
      · rw [Memory.write, if_neg h1, if_neg h2, Memory.wfFrom_cons]
        exact ⟨h'.1, h'.2.1, h'.2.2.1, ih h'.2.2.2 (by omega)⟩

/-- A write inside the array keeps the canonical form. -/
theorem Memory.write_wf {size a : Nat} {m : Memory} (v : Byte) (h : m.wf size = true) (ha : a < size) :
    (m.write a v).wf size = true := Memory.write_wfFrom v h (Nat.zero_le a) ha

/-- The array with nothing listed is canonical. -/
@[simp] theorem Memory.wf_nil (size : Nat) : Memory.wf size [] = true := rfl

theorem Memory.ext_from {size low : Nat} {m n : Memory} (hm : Memory.wfFrom size low m = true)
    (hn : Memory.wfFrom size low n = true) (h : ∀ a, m.read a = n.read a) : m = n := by
  induction m generalizing low n with
  | nil =>
    cases n with
    | nil => rfl
    | cons c rest =>
      obtain ⟨k, v⟩ := c
      have h' := (Memory.wfFrom_cons _ _ _ _ _).1 hn
      have := h k
      simp only [Memory.read, if_true] at this
      exact absurd this.symm h'.2.2.1
  | cons c rest ih =>
    obtain ⟨k, v⟩ := c
    have h' := (Memory.wfFrom_cons _ _ _ _ _).1 hm
    cases n with
    | nil =>
      have := h k
      simp only [Memory.read, if_true] at this
      exact absurd this h'.2.2.1
    | cons d rest' =>
      obtain ⟨j, w⟩ := d
      have h'' := (Memory.wfFrom_cons _ _ _ _ _).1 hn
      have hkj : k = j := by
        rcases Nat.lt_trichotomy k j with hlt | heq | hgt
        · have := h k
          rw [Memory.read, if_pos rfl, Memory.read, if_neg (by omega),
            Memory.read_below h''.2.2.2 (by omega)] at this
          exact absurd this h'.2.2.1
        · exact heq
        · have := h j
          rw [Memory.read, if_neg (by omega), Memory.read_below h'.2.2.2 (by omega), Memory.read,
            if_pos rfl] at this
          exact absurd this.symm h''.2.2.1
      subst hkj
      have hv : v = w := by simpa [Memory.read] using h k
      subst hv
      have : rest = rest' := by
        refine ih h'.2.2.2 h''.2.2.2 fun a => ?_
        by_cases ha : a = k
        · subst ha
          rw [Memory.read_below h'.2.2.2 (by omega), Memory.read_below h''.2.2.2 (by omega)]
        · simpa [Memory.read, ha] using h a
      rw [this]

/-- Equal contents are equal data: a canonical memory is determined by what it reads as. -/
theorem Memory.ext_of_wf {size : Nat} {m n : Memory} (hm : m.wf size = true) (hn : n.wf size = true)
    (h : ∀ a, m.read a = n.read a) : m = n := Memory.ext_from hm hn h

end Sys2Proof.Machine
end

