-- ==== Sys2Proof/Laws/Stack.lean ====
section
/-! SUPPORT. Laws of the stack frames, of the vectors in PRG ROM, and of the addressing arithmetic. -/

namespace Sys2Proof.Machine

/-- Two stack slots are two bytes of RAM. -/
theorem stackIndex_ne {a b : Byte} (h : a ≠ b) : 256 + a.toNat ≠ 256 + b.toNat := by
  intro e
  exact h (BitVec.eq_of_toNat_eq (by omega))

/-- The index of a stack byte lies in RAM. -/
theorem stackIndex_lt (a : Byte) : 256 + a.toNat < 2048 := by
  have := a.isLt
  omega

/-- A word pulled, low byte first (R291, R314). -/
theorem State.pullWord_eq (s : State) :
    s.pullWord =
      { value := wordOf (s.ram.read (256 + (s.cpu.s + 1).toNat)) (s.ram.read (256 + (s.cpu.s + 2).toNat)),
        state := s.setS (s.cpu.s + 2) } := by
  simp only [State.pullWord, State.pull_eq, State.setS_s, State.setS_ram]
  rw [show s.cpu.s + 1 + 1 = s.cpu.s + 2 by rw [BitVec.add_assoc]; rfl]
  rfl

/-- A word pushed, high byte first (R290). -/
theorem State.pushWord_eq (s : State) (w : Word) :
    s.pushWord w =
      (((s.noteWrite (highByte w)).noteWrite (lowByte w)).setRam ((s.ram.write (256 + s.cpu.s.toNat) (highByte w)).write
        (256 + (s.cpu.s - 1).toNat) (lowByte w))).setS (s.cpu.s - 2) := by
  have h2 : s.cpu.s - 1 - 1 = s.cpu.s - 2 := by rw [BitVec.sub_sub]; rfl
  simp only [State.pushWord, State.push_eq, State.setS_s, State.setS_ram, State.setRam_ram, h2]
  rfl

/-- The frame of BRK and of an interrupt (R313, R566): the two bytes of `PC` and the status image. -/
theorem State.pushFrame_eq (s : State) (brk : Bool) :
    s.pushFrame brk =
      ((((s.noteWrite (highByte s.cpu.pc)).noteWrite (lowByte s.cpu.pc)).noteWrite (pushedP s.cpu.p brk)).setRam
        (((s.ram.write (256 + s.cpu.s.toNat) (highByte s.cpu.pc)).write
          (256 + (s.cpu.s - 1).toNat) (lowByte s.cpu.pc)).write
          (256 + (s.cpu.s - 2).toNat) (pushedP s.cpu.p brk))).setS (s.cpu.s - 3) := by
  have h3 : s.cpu.s - 2 - 1 = s.cpu.s - 3 := by rw [BitVec.sub_sub]; rfl
  simp only [State.pushFrame, State.pushWord_eq, State.push_eq, State.setS_s, State.setS_ram,
    State.setRam_ram, State.setS_p, State.setRam_cpu, State.noteWrite_cpu, h3]
  rfl

/-- The return of R314: the status, then `PC`. -/
theorem State.returnFromInterrupt_eq (s : State) :
    s.returnFromInterrupt =
      ((s.setS (s.cpu.s + 3)).setP (loadedP (s.ram.read (256 + (s.cpu.s + 1).toNat)))).setPc
        (wordOf (s.ram.read (256 + (s.cpu.s + 2).toNat)) (s.ram.read (256 + (s.cpu.s + 3).toNat))) := by
  have h2 : s.cpu.s + 1 + 1 = s.cpu.s + 2 := by rw [BitVec.add_assoc]; rfl
  have h3 : s.cpu.s + 1 + 2 = s.cpu.s + 3 := by rw [BitVec.add_assoc]; rfl
  simp only [State.returnFromInterrupt, State.pull_eq, State.pullWord_eq, State.setP_s, State.setS_s, h2, h3]
  rfl

/-- PRG ROM is memory at every address from 0x8000 (R522, R531). -/
theorem State.peek_rom (s : State) {a : Word} (h : 0x8000 ≤ a) :
    s.peek a = some (s.cart.prg.read (s.cart.prgIndex a)) := by
  have h1 : inPrgRam a = false := by
    have : ¬a ≤ (0x7FFF : Word) := by bv_omega
    simp only [inPrgRam, this, decide_false, Bool.and_false]
  simp only [State.peek, Cartridge.cpuRead]
  cases s.cart.mapper <;> simp only [h1, h, if_true, if_false, Bool.false_eq_true]

/-- The bytes the CPU sees depend on RAM and the cartridge alone. -/
theorem State.peek_of_ram_cart {s t : State} (h1 : t.ram = s.ram) (h2 : t.cart = s.cart) (a : Word) :
    t.peek a = s.peek a := by
  simp only [State.peek, h1, h2]

theorem State.peek_rom_of_cart {s t : State} (h : t.cart = s.cart) {a : Word} (ha : 0x8000 ≤ a) :
    t.peek a = s.peek a := by
  rw [State.peek_rom _ ha, State.peek_rom _ ha, h]

/-- A vector in PRG ROM is read with no side effect. -/
theorem State.loadVector_rom (s : State) {a : Word} (h : 0x8000 ≤ a) (h' : 0x8000 ≤ a + 1) :
    ∃ lo hi, s.peek a = some lo ∧ s.peek (a + 1) = some hi ∧ s.loadVector a = s.setPc (wordOf lo hi) := by
  refine ⟨_, _, s.peek_rom h, s.peek_rom h', ?_⟩
  simp only [State.loadVector, State.read16, State.readPair, State.memRead_of_peek (s.peek_rom h),
    State.memRead_of_peek (s.peek_rom h')]

/-- What taking an interrupt leaves alone: every device and the cartridge; only `P`, `S`, `PC` and `cyc` of
the CPU change. -/
theorem State.enterInterrupt_frame (s : State) (vector : Word) (cost : Nat) :
    (s.enterInterrupt vector cost).cpu.a = s.cpu.a ∧ (s.enterInterrupt vector cost).cpu.x = s.cpu.x ∧
    (s.enterInterrupt vector cost).cpu.y = s.cpu.y ∧ (s.enterInterrupt vector cost).cpu.cyc = cost ∧
    (s.enterInterrupt vector cost).cart = s.cart ∧ (s.enterInterrupt vector cost).dma = s.dma ∧
    (s.enterInterrupt vector cost).clock = s.clock ∧ (s.enterInterrupt vector cost).apu = s.apu ∧
    (s.enterInterrupt vector cost).params = s.params ∧
    (s.enterInterrupt vector cost).controller0 = s.controller0 ∧
    (s.enterInterrupt vector cost).controller1 = s.controller1 := by
  simp [State.enterInterrupt, State.loadVector, State.read16, State.readPair, State.setFlag_eq,
    State.pushFrame_eq]

/-- The flags after taking an interrupt: B clear, I set (R566). -/
theorem State.enterInterrupt_flag (s : State) (vector : Word) (cost : Nat) (f : Flag) :
    (s.enterInterrupt vector cost).flag f = if f = .i then true else if f = .b then false else s.flag f := by
  have : (s.enterInterrupt vector cost).flag f =
      (((s.pushFrame false).setFlag .b false).setFlag .i true).flag f :=
    State.flag_of_p (by simp [State.enterInterrupt, State.loadVector, State.read16, State.readPair]) f
  rw [this, State.flag_setFlag, State.flag_setFlag, State.pushFrame_eq]
  rfl

/-- The effective address of an indexed mode wraps at 16 bits. -/
theorem indexed_ea_toNat (s : State) (w : Word) (x : Byte) :
    (indexed s w x).ea.toNat = (w.toNat + x.toNat) % 65536 := by
  simp [indexed]

/-- The page-cross flag is a carry out of the low byte. -/
theorem indexed_crossed (s : State) (w : Word) (x : Byte) :
    (indexed s w x).crossed = decide (256 ≤ w.toNat % 256 + x.toNat) := by
  have h1 := highByte_toNat (w + zext16 x)
  have h2 := highByte_toNat w
  have hw := w.isLt
  have hx := x.isLt
  rw [BitVec.toNat_add, zext16_toNat] at h1
  have h3 : (highByte (w + zext16 x) != highByte w) =
      decide ((highByte (w + zext16 x)).toNat ≠ (highByte w).toNat) := by
    simp [bne, BEq.beq, BitVec.toNat_inj]
  simp only [indexed]
  rw [h3, h1, h2]
  simp only [decide_eq_decide]
  omega

/-- A branch target is the next instruction's address plus a signed offset (R175). -/
theorem relTarget_toNat (s : State) (b : Byte) :
    ((relTarget s b).toNat : Int) = (s.cpu.pc.toNat + b.toInt) % 65536 := by
  have hb := b.isLt
  have hp := s.cpu.pc.isLt
  simp only [relTarget, BitVec.toNat_add, sext16, BitVec.toNat_signExtend]
  rw [BitVec.toInt_eq_toNat_cond]
  simp only [BitVec.toNat_setWidth, BitVec.msb_eq_decide]
  by_cases h : 128 ≤ b.toNat
  · have e1 : ¬2 * b.toNat < 2 ^ 8 := by omega
    have e2 : 2 ^ (8 - 1) ≤ b.toNat := h
    simp only [e1, e2, if_true, if_false, decide_true]
    push_cast
    omega
  · have e1 : 2 * b.toNat < 2 ^ 8 := by omega
    have e2 : ¬2 ^ (8 - 1) ≤ b.toNat := h
    simp only [e1, e2, if_true, decide_false]
    push_cast
    omega

end Sys2Proof.Machine
end

