-- ==== Sys2Proof/Laws/Step.lean ====
section
/-! SUPPORT. What an instruction and a tick are made of: a property that CPU updates, bus reads and bus writes
keep is kept by every instruction, and one that the devices keep as well is kept by every step. -/

namespace Sys2Proof.Machine

/-- The instructions whose operand is in memory in some format. -/
def memoryMnemonics : List Mnemonic :=
  [.lda, .ldx, .ldy, .sta, .stx, .sty, .adc, .sbc, .and, .ora, .eor] ++
  [.bit, .cmp, .cpx, .cpy, .inc, .dec, .asl, .lsr, .rol, .ror]

/-- A property of the machine that the three things an instruction does to it keep. -/
structure Kept (P : State → Prop) : Prop where
  cpu : ∀ s c, P s → P { s with cpu := c }
  read : ∀ s a, P s → P (s.memRead a).state
  write : ∀ s a v, P s → P (s.memWrite a v)

namespace Kept

variable {P : State → Prop} (k : Kept P) {s : State}

include k

/-- What differs in the CPU registers only has the property as well. -/
theorem same {t : State} (h : P s) (e : SameOutsideCpu s t) : P t := by
  have := k.cpu s t.cpu h
  rwa [← e] at this

theorem charge (h : P s) (n : Nat) (c e : Bool) (m : Nat) : P (s.charge n c e m) := k.cpu _ _ h
theorem setPc (h : P s) (w : Word) : P (s.setPc w) := k.cpu _ _ h
theorem setS (h : P s) (v : Byte) : P (s.setS v) := k.cpu _ _ h
theorem setP (h : P s) (v : Byte) : P (s.setP v) := k.cpu _ _ h
theorem setCyc (h : P s) (n : Nat) : P (s.setCyc n) := k.cpu _ _ h
theorem setFlag (h : P s) (f : Flag) (b : Bool) : P (s.setFlag f b) := k.cpu _ _ h

theorem setA (h : P s) (v : Byte) : P (s.setA v) := k.cpu _ _ h
theorem setX (h : P s) (v : Byte) : P (s.setX v) := k.cpu _ _ h
theorem setY (h : P s) (v : Byte) : P (s.setY v) := k.cpu _ _ h
theorem setSumFlags (h : P s) (r : Sum) : P (s.setSumFlags r) := k.same h rfl
theorem setCompareFlags (h : P s) (r m : Byte) : P (s.setCompareFlags r m) := k.same h rfl
theorem setBitTestFlags (h : P s) (m : Byte) : P (s.setBitTestFlags m) := k.same h rfl
theorem setShiftFlags (h : P s) (r : Shifted) : P (s.setShiftFlags r) := k.same h rfl

theorem setZN (h : P s) (v : Byte) : P (s.setZN v) := k.setFlag (k.setFlag h _ _) _ _

theorem push (h : P s) (v : Byte) : P (s.push v) := k.setS (k.write _ _ _ h) _

theorem pushWord (h : P s) (w : Word) : P (s.pushWord w) := k.push (k.push h _) _

theorem pushFrame (h : P s) (b : Bool) : P (s.pushFrame b) := k.push (k.pushWord h _) _

theorem pull (h : P s) : P s.pull.state := k.read _ _ (k.setS h _)

theorem pullWord (h : P s) : P s.pullWord.state := k.pull (k.pull h)

theorem readPair (h : P s) (a b : Word) : P (s.readPair a b).state := k.read _ _ (k.read _ _ h)

theorem loadVector (h : P s) (a : Word) : P (s.loadVector a) := k.setPc (k.readPair h _ _) _

theorem enterBreak (h : P s) : P s.enterBreak := k.loadVector (k.setFlag (k.pushFrame h _) _ _) _

theorem enterInterrupt (h : P s) (a : Word) (n : Nat) : P (s.enterInterrupt a n) :=
  k.setCyc (k.loadVector (k.setFlag (k.setFlag (k.pushFrame h _) _ _) _ _) _) _

theorem returnFromInterrupt (h : P s) : P s.returnFromInterrupt :=
  k.setPc (k.pullWord (k.setP (k.pull h) _)) _

theorem locate (h : P s) (i : Instr) : P (s.locate i).state := by
  simp only [State.locate]
  split <;> first
    | exact h
    | exact k.readPair h _ _

theorem operand (h : P s) (i : Instr) : P (s.operand i).state := by
  simp only [State.operand]
  split <;> first
    | exact h
    | exact k.read _ _ (k.locate h i)

theorem fetch {l : Located} (h : P l.state) : P l.fetch.state := k.read _ _ h

theorem fetchByte (h : P s) : P s.fetchByte.state := k.setPc (k.read _ _ h) _

theorem fetchBytes (n : Nat) : ∀ {s : State}, P s → P (s.fetchBytes n).state := by
  induction n with
  | zero => exact id
  | succ n ih => exact fun h => ih (k.fetchByte h)

theorem fetchInstr (h : P s) : P s.fetchInstr.state := k.fetchBytes _ (k.fetchByte h)

theorem execOperand {i : Instr} {t : State} (h : P s) (he : Machine.exec i s = .next t)
    (hi : i.mnemonic ∈ memoryMnemonics) : P t := by
  have ho := k.operand h i
  have hl := k.locate h i
  have hf := k.fetch hl
  cases hm : i.mnemonic <;> rw [hm] at hi <;> try (exact absurd hi (by decide))
  case lda => rw [exec_lda hm] at he; cases he; exact k.charge (k.setZN (k.setA ho _) _) _ _ _ _
  case ldx => rw [exec_ldx hm] at he; cases he; exact k.charge (k.setZN (k.setX ho _) _) _ _ _ _
  case ldy => rw [exec_ldy hm] at he; cases he; exact k.charge (k.setZN (k.setY ho _) _) _ _ _ _
  case sta => rw [exec_sta hm] at he; cases he; exact k.charge (k.write _ _ _ hl) _ _ _ _
  case stx => rw [exec_stx hm] at he; cases he; exact k.charge (k.write _ _ _ hl) _ _ _ _
  case sty => rw [exec_sty hm] at he; cases he; exact k.charge (k.write _ _ _ hl) _ _ _ _
  case adc => rw [exec_adc hm] at he; cases he; exact k.charge (k.setA (k.setSumFlags ho _) _) _ _ _ _
  case sbc => rw [exec_sbc hm] at he; cases he; exact k.charge (k.setA (k.setSumFlags ho _) _) _ _ _ _
  case and => rw [exec_and hm] at he; cases he; exact k.charge (k.setZN (k.setA ho _) _) _ _ _ _
  case ora => rw [exec_ora hm] at he; cases he; exact k.charge (k.setZN (k.setA ho _) _) _ _ _ _
  case eor => rw [exec_eor hm] at he; cases he; exact k.charge (k.setZN (k.setA ho _) _) _ _ _ _
  case bit => rw [exec_bit hm] at he; cases he; exact k.charge (k.setBitTestFlags ho _) _ _ _ _
  case cmp => rw [exec_cmp hm] at he; cases he; exact k.charge (k.setCompareFlags ho _ _) _ _ _ _
  case cpx => rw [exec_cpx hm] at he; cases he; exact k.charge (k.setCompareFlags ho _ _) _ _ _ _
  case cpy => rw [exec_cpy hm] at he; cases he; exact k.charge (k.setCompareFlags ho _ _) _ _ _ _
  case inc =>
    rw [exec_inc hm] at he
    cases he
    refine k.charge (k.setZN ?_ _) _ _ _ _
    exact k.write _ _ _ hf
  case dec =>
    rw [exec_dec hm] at he
    cases he
    refine k.charge (k.setZN ?_ _) _ _ _ _
    exact k.write _ _ _ hf
  case asl =>
    rw [exec_asl hm] at he
    split at he <;> cases he
    · exact k.charge (k.setA (k.setShiftFlags h _) _) _ _ _ _
    · exact k.charge (k.write _ _ _ (k.setShiftFlags hf _)) _ _ _ _
  case lsr =>
    rw [exec_lsr hm] at he
    split at he <;> cases he
    · exact k.charge (k.setA (k.setShiftFlags h _) _) _ _ _ _
    · exact k.charge (k.write _ _ _ (k.setShiftFlags hf _)) _ _ _ _
  case rol =>
    rw [exec_rol hm] at he
    split at he <;> cases he
    · exact k.charge (k.setA (k.setShiftFlags h _) _) _ _ _ _
    · exact k.charge (k.write _ _ _ (k.setShiftFlags hf _)) _ _ _ _
  case ror =>
    rw [exec_ror hm] at he
    split at he <;> cases he
    · exact k.charge (k.setA (k.setShiftFlags h _) _) _ _ _ _
    · exact k.charge (k.write _ _ _ (k.setShiftFlags hf _)) _ _ _ _

theorem execOther {i : Instr} {t : State} (h : P s) (he : Machine.exec i s = .next t)
    (hi : i.mnemonic ∉ memoryMnemonics) (hr : i.mode ≠ .rel) (hj : i.mnemonic ≠ .jmp) : P t := by
  cases i with
  | pha | php => cases he; exact k.charge (k.push h _) _ _ _ _
  | jsr => cases he; exact k.charge (k.setPc (k.pushWord h _) _) _ _ _ _
  | rts => cases he; exact k.charge (k.setPc (k.pullWord h) _) _ _ _ _
  | pla => cases he; exact k.charge (k.setZN (k.setA (k.pull h) _) _) _ _ _ _
  | plp => cases he; exact k.charge (k.setP (k.pull h) _) _ _ _ _
  | brk => cases he; exact k.charge (k.enterBreak (k.setPc h _)) _ _ _ _
  | rti => cases he; exact k.charge (k.returnFromInterrupt h) _ _ _ _
  | clc | sec | cli | sei | clv | cld | sed => cases he; exact k.charge (k.setFlag h _ _) _ _ _ _
  | nop | ill _ => cases he; exact k.charge h _ _ _ _
  | tax | tsx | inx | dex => cases he; exact k.charge (k.setZN (k.setX h _) _) _ _ _ _
  | tay | iny | dey => cases he; exact k.charge (k.setZN (k.setY h _) _) _ _ _ _
  | txa | tya => cases he; exact k.charge (k.setZN (k.setA h _) _) _ _ _ _
  | txs => cases he; exact k.charge (k.setS h _) _ _ _ _
  | bcc | bcs | beq | bne | bpl | bmi | bvc | bvs => exact absurd rfl hr
  | jmpAbs | jmpInd => exact absurd rfl hj
  | _ => simp only [Instr.mnemonic] at hi; exact absurd (by decide) hi

/-- Every instruction keeps what CPU updates, bus reads and bus writes keep. -/
theorem exec {i : Instr} {t : State} (h : P s) (he : Machine.exec i s = .next t) : P t := by
  by_cases hi : i.mnemonic ∈ memoryMnemonics
  · exact k.execOperand h he hi
  by_cases hr : i.mode = .rel
  · rw [exec_branch hr, branch] at he
    split at he <;> cases he
    · exact k.charge (k.setPc h _) _ _ _ _
    · exact k.charge h _ _ _ _
  by_cases hj : i.mnemonic = .jmp
  · rw [exec_jmp hj] at he
    cases he
    exact k.charge (k.setPc (k.locate h i) _) _ _ _ _
  exact k.execOther h he hi hr hj

end Kept

/-- No instruction faults or is refused (R161, R560). -/
theorem exec_next (i : Instr) (s : State) : ∃ t, exec i s = .next t := by
  cases i <;> first
    | exact ⟨_, rfl⟩
    | (simp only [exec, execBcc, execBcs, execBeq, execBne, execBpl, execBmi, execBvc, execBvs, branch]
       split <;> exact ⟨_, rfl⟩)

/-- The CPU clock has one outcome, the next state. -/
theorem State.cpuClock_next (s : State) : ∃ t, s.cpuClock = .next t := by
  simp only [State.cpuClock]
  split
  · obtain ⟨t, ht⟩ := exec_next s.fetchInstr.instr s.fetchInstr.state
    rw [ht]
    exact ⟨_, rfl⟩
  · exact ⟨_, rfl⟩

/-- What a CPU clock can do: run the instruction at `PC`, or count down. -/
theorem State.cpuClock_cases {s t : State} (h : s.cpuClock = .next t) :
    (s.cpu.cyc = 0 ∧ ∃ u, exec s.fetchInstr.instr s.fetchInstr.state = .next u ∧ t = u.countDown) ∨
    (s.cpu.cyc ≠ 0 ∧ t = s.countDown) := by
  simp only [State.cpuClock] at h
  split at h
  · next hc =>
    obtain ⟨u, hu⟩ := exec_next s.fetchInstr.instr s.fetchInstr.state
    rw [hu] at h
    cases h
    exact .inl ⟨hc, u, hu, rfl⟩
  · next hc =>
    cases h
    exact .inr ⟨hc, rfl⟩

/-- What a tick can do (R341): the devices step, then nothing, a DMA sub-step or a CPU clock, then the arbiter
and the count. -/
theorem step_cases {s t : State} (h : step s = .next t) :
    ∃ u, t = u.endTick ∧
      ((s.deviceClock.clock % 3 ≠ 0 ∧ u = s.deviceClock) ∨
       (s.deviceClock.clock % 3 = 0 ∧ s.deviceClock.dma.enable = true ∧ u = s.deviceClock.dmaStep) ∨
       (s.deviceClock.clock % 3 = 0 ∧ s.deviceClock.dma.enable = false ∧ s.deviceClock.cpuClock = .next u)) := by
  simp only [step, State.tick, State.cpuPart] at h
  by_cases h3 : s.deviceClock.clock % 3 = 0
  · rw [if_pos h3] at h
    cases hd : s.deviceClock.dma.enable with
    | true =>
      rw [hd, if_pos rfl] at h
      cases h
      exact ⟨_, rfl, .inr (.inl ⟨h3, rfl, rfl⟩)⟩
    | false =>
      rw [hd, if_neg Bool.false_ne_true] at h
      obtain ⟨u, hu⟩ := s.deviceClock.cpuClock_next
      rw [hu] at h
      cases h
      exact ⟨u, rfl, .inr (.inr ⟨h3, rfl, hu⟩)⟩
  · rw [if_neg h3] at h
    cases h
    exact ⟨_, rfl, .inl ⟨h3, rfl⟩⟩

/-- Every step answers a next state. -/
theorem step_next (s : State) : ∃ t, step s = .next t := by
  have h : ∃ u, s.deviceClock.cpuPart = .next u := by
    simp only [State.cpuPart]
    split
    · split
      · exact ⟨_, rfl⟩
      · exact s.deviceClock.cpuClock_next
    · exact ⟨_, rfl⟩
  obtain ⟨u, hu⟩ := h
  exact ⟨u.endTick, by simp only [step, State.tick, hu]⟩

/-- A property that instructions keep, and that the devices, the DMA controller and the end of a tick keep as
well. -/
structure KeptByStep (P : State → Prop) : Prop extends Kept P where
  device : ∀ s, P s → P s.deviceClock
  dma : ∀ s, s.dma.enable = true → P s → P s.dmaStep
  clearNmi : ∀ s, P s → P (s.setPpu { s.ppu with nmiPending := false })
  clearIrq : ∀ s, P s → P (s.setCart { s.cart with irqState := false })
  count : ∀ s, P s → P (s.setClock (s.clock + 1))

theorem KeptByStep.endTick {P : State → Prop} (k : KeptByStep P) {s : State} (h : P s) : P s.endTick := by
  refine k.count _ ?_
  have h1 : P s.serviceNmi := by
    simp only [State.serviceNmi, State.raiseNmi]
    split
    · exact k.toKept.enterInterrupt (k.clearNmi _ h) _ _
    · exact h
  have h2 : P (s.serviceNmi.setCart s.serviceNmi.cart.irqClear) := k.clearIrq _ h1
  simp only [State.arbiter, State.serviceIrq]
  by_cases hp : s.serviceNmi.cart.irqPending = true
  · rw [if_pos hp, State.raiseIrq]
    by_cases hi : (s.serviceNmi.setCart s.serviceNmi.cart.irqClear).flag .i = true
    · rw [if_pos hi]
      exact h2
    · rw [if_neg hi]
      exact k.toKept.enterInterrupt h2 _ _
  · rw [if_neg hp]
    exact h1

/-- Every step keeps such a property. -/
theorem KeptByStep.step {P : State → Prop} (k : KeptByStep P) {s t : State} (h : P s)
    (hs : step s = .next t) : P t := by
  obtain ⟨u, rfl, hu⟩ := step_cases hs
  refine k.endTick ?_
  have hd := k.device _ h
  rcases hu with ⟨-, rfl⟩ | ⟨-, he, rfl⟩ | ⟨-, -, hc⟩
  · exact hd
  · exact k.dma _ he hd
  · rcases State.cpuClock_cases hc with ⟨-, v, hv, rfl⟩ | ⟨-, rfl⟩
    · exact k.toKept.setCyc (k.toKept.exec (k.toKept.fetchInstr hd) hv) _
    · exact k.toKept.setCyc hd _

end Sys2Proof.Machine
end

