-- ==== Sys2Proof/Laws/Canonical.lean ====
section
/-! SUPPORT. Every memory operation of the machine keeps every memory in canonical form and inside its size, and
the reset state has it. -/

namespace Sys2Proof.Machine

/-- The parts of `State.memoriesWf`. -/
theorem State.memoriesWf_iff (s : State) :
    s.memoriesWf = true ↔
      s.ram.wf 2048 = true ∧ s.ppu.nt0.wf 1024 = true ∧ s.ppu.nt1.wf 1024 = true ∧ s.ppu.pal.wf 32 = true ∧
      s.ppu.oam.wf 256 = true ∧ s.ppu.frame.wf 61440 = true ∧ 0 < s.cart.prgBanks ∧
      s.cart.prg.wf s.cart.prgSize = true ∧ s.cart.pattern.wf = true ∧ s.cart.mapper.wf = true := by
  simp only [State.memoriesWf, Bool.and_eq_true, decide_eq_true_eq, and_assoc]

/-- The reset state's memories are canonical. -/
theorem State.reset_memoriesWf : State.reset.memoriesWf = true := by decide

theorem palIndex_lt (a : PpuAddr) : palIndex a < 32 := by
  have h : (a &&& 0x1F).toNat < 32 := by
    rw [BitVec.toNat_and, show (0x1F : PpuAddr).toNat = 2 ^ 5 - 1 from rfl, Nat.and_two_pow_sub_one_eq_mod]
    omega
  simp only [palIndex]
  split
  · next hc => rcases hc with hc | hc | hc | hc <;> rw [hc] <;> decide
  · exact h

theorem ntIndex_eq (a : PpuAddr) : ntIndex a = a.toNat % 1024 := by
  rw [ntIndex, BitVec.toNat_and, show (0x3FF : PpuAddr).toNat = 2 ^ 10 - 1 from rfl,
    Nat.and_two_pow_sub_one_eq_mod]

theorem ntIndex_lt (a : PpuAddr) : ntIndex a < 1024 := by
  rw [ntIndex_eq]
  omega

/-- A PPU bus write keeps the canonical form. -/
theorem State.ppuWrite_memoriesWf {s : State} (h : s.memoriesWf = true) (a : PpuAddr) (v : Byte) :
    (s.ppuWrite a v).memoriesWf = true := by
  rw [State.memoriesWf_iff] at h ⊢
  obtain ⟨h1, h2, h3, h4, h5, h6, h7, h8, h9, h10⟩ := h
  simp only [State.ppuWrite]
  split
  · exact ⟨h1, h2, h3, Memory.write_wf v h4 (palIndex_lt a), h5, h6, h7, h8, h9, h10⟩
  · split
    · next c hc =>
      simp only [Cartridge.ppuWrite] at hc
      split at hc
      · cases hc
      · next ha =>
        split at hc
        · next data hd =>
          cases hc
          rw [hd] at h9
          refine ⟨h1, h2, h3, h4, h5, h6, h7, h8, Memory.write_wf v h9 ?_, h10⟩
          have : a.toNat ≤ 8191 := by
            have := BitVec.not_lt.mp ha
            simpa [BitVec.le_def] using this
          omega
        · cases hc
          exact ⟨h1, h2, h3, h4, h5, h6, h7, h8, h9, h10⟩
    · split
      · simp only [Ppu.ntWrite]
        split
        · exact ⟨h1, h2, Memory.write_wf v h3 (ntIndex_lt a), h4, h5, h6, h7, h8, h9, h10⟩
        · exact ⟨h1, Memory.write_wf v h2 (ntIndex_lt a), h3, h4, h5, h6, h7, h8, h9, h10⟩
      · exact ⟨h1, h2, h3, h4, h5, h6, h7, h8, h9, h10⟩

/-- A bus read keeps the canonical form. -/
theorem State.memRead_memoriesWf {s : State} (h : s.memoriesWf = true) (a : Word) :
    (s.memRead a).state.memoriesWf = true := by
  obtain ⟨p, n, c0, c1, he, b, l, d, w, rfl⟩ := s.memRead_frame a
  rw [he]
  exact h

/-- A cartridge write keeps the canonical form. -/
theorem Cartridge.cpuWrite_wf {c d : Cartridge} {a : Word} {v : Byte} (h : c.cpuWrite a v = some d)
    (hm : c.mapper.wf = true) :
    d.mapper.wf = true ∧ d.prg = c.prg ∧ d.prgBanks = c.prgBanks ∧ d.pattern = c.pattern := by
  simp only [Cartridge.cpuWrite] at h
  split at h
  · split at h <;> cases h
    exact ⟨hm, rfl, rfl, rfl⟩
  · next r hr =>
    rw [hr] at hm
    split at h
    · cases h
      exact ⟨Memory.write_wf v hm (prgRamIndex_lt a), rfl, rfl, rfl⟩
    · split at h
      · cases h
        refine ⟨?_, rfl, rfl, rfl⟩
        have : (r.serialWrite a v).prgRam = r.prgRam := by
          simp only [Mapper1.serialWrite]
          split
          · rfl
          · split
            · split <;> rfl
            · rfl
        simp only [Mapper.wf, this]
        exact hm
      · cases h

/-- A bus write keeps the canonical form. -/
theorem State.memWrite_memoriesWf {s : State} (h : s.memoriesWf = true) (a : Word) (v : Byte) :
    (s.memWrite a v).memoriesWf = true := by
  have hs := h
  rw [State.memoriesWf_iff] at h
  obtain ⟨h1, h2, h3, h4, h5, h6, h7, h8, h9, h10⟩ := h
  simp only [State.memWrite, State.decodeWrite]
  split
  · next c hc =>
    obtain ⟨e1, e2, e3, e4⟩ := Cartridge.cpuWrite_wf hc h10
    rw [State.memoriesWf_iff]
    refine ⟨h1, h2, h3, h4, h5, h6, ?_, ?_, ?_, e1⟩
    · exact e3 ▸ h7
    · simp only [State.setCart, Cartridge.prgSize, e2, e3]
      exact h8
    · exact e4 ▸ h9
  · split
    · rw [State.memoriesWf_iff]
      exact ⟨Memory.write_wf v h1 (ramIndex_lt a), h2, h3, h4, h5, h6, h7, h8, h9, h10⟩
    · split
      · simp only [State.ppuRegWrite]
        split <;> try exact hs
        · rw [State.memoriesWf_iff]
          exact ⟨h1, h2, h3, h4, Memory.write_wf v h5 s.ppu.oamAddr.isLt, h6, h7, h8, h9, h10⟩
        · simp only [Ppu.scrollWrite]
          split <;> exact hs
        · simp only [Ppu.addressWrite]
          split <;> exact hs
        · exact State.ppuWrite_memoriesWf (s := s.noteWrite v) hs _ _
      · repeat' split
        all_goals exact hs

/-- A DMA sub-step keeps the canonical form. -/
theorem State.dmaStep_memoriesWf {s : State} (h : s.memoriesWf = true) : s.dmaStep.memoriesWf = true := by
  simp only [State.dmaStep]
  split
  · split <;> exact h
  · split
    · have h' := h
      rw [State.memoriesWf_iff] at h'
      obtain ⟨h1, h2, h3, h4, h5, h6, h7, h8, h9, h10⟩ := h'
      simp only [State.dmaWrite]
      split <;>
        (rw [State.memoriesWf_iff]
         exact ⟨h1, h2, h3, h4, Memory.write_wf _ h5 s.dma.index.isLt, h6, h7, h8, h9, h10⟩)
    · exact State.memRead_memoriesWf h _

/-- A write of a value that a predicate allows keeps it over all cells. -/
theorem Memory.all_write {f : Host.Cell → Bool} {m : Memory} {a : Nat} {v : Byte}
    (h : m.all f = true) (hv : f (a, v) = true) : (m.write a v).all f = true := by
  induction m with
  | nil => by_cases h0 : v = unlistedByte <;> simp [Memory.write, h0, hv]
  | cons c rest ih =>
    obtain ⟨k, w⟩ := c
    simp only [List.all_cons, Bool.and_eq_true] at h
    simp only [Memory.write]
    repeat' split
    all_goals try simp only [List.all_cons, Bool.and_eq_true]
    all_goals first
      | exact ⟨h.1, h.2⟩
      | exact h.2
      | exact ⟨hv, h.1, h.2⟩
      | exact ⟨hv, h.2⟩
      | exact ⟨h.1, ih h.2⟩

end Sys2Proof.Machine
end

