-- ==== Sys2Proof/Laws/PerInstr.lean ====
section
/-! SUPPORT. A statement about every instruction, one lemma per constructor: its encoding is as long as its format
says (R131), and no longer than the longest. -/

namespace Sys2Proof.Laws.Encoding

open Sys2Proof

/-- The length of an instruction's encoding. -/
def Statement (i : Instr) : Prop :=
  (encode i).length = i.length ∧ i.length ≤ longestInstruction

theorem ldaImm (b : Byte) : Statement (.ldaImm b) := ⟨rfl, Nat.le_of_ble_eq_true rfl⟩
theorem ldaZp0 (b : Byte) : Statement (.ldaZp0 b) := ⟨rfl, Nat.le_of_ble_eq_true rfl⟩
theorem ldaZpx (b : Byte) : Statement (.ldaZpx b) := ⟨rfl, Nat.le_of_ble_eq_true rfl⟩
theorem ldaAbs (w : Word) : Statement (.ldaAbs w) := ⟨rfl, Nat.le_of_ble_eq_true rfl⟩
theorem ldaAbx (w : Word) : Statement (.ldaAbx w) := ⟨rfl, Nat.le_of_ble_eq_true rfl⟩
theorem ldaAby (w : Word) : Statement (.ldaAby w) := ⟨rfl, Nat.le_of_ble_eq_true rfl⟩
theorem ldaIzx (b : Byte) : Statement (.ldaIzx b) := ⟨rfl, Nat.le_of_ble_eq_true rfl⟩
theorem ldaIzy (b : Byte) : Statement (.ldaIzy b) := ⟨rfl, Nat.le_of_ble_eq_true rfl⟩
theorem ldxImm (b : Byte) : Statement (.ldxImm b) := ⟨rfl, Nat.le_of_ble_eq_true rfl⟩
theorem ldxZp0 (b : Byte) : Statement (.ldxZp0 b) := ⟨rfl, Nat.le_of_ble_eq_true rfl⟩
theorem ldxZpy (b : Byte) : Statement (.ldxZpy b) := ⟨rfl, Nat.le_of_ble_eq_true rfl⟩
theorem ldxAbs (w : Word) : Statement (.ldxAbs w) := ⟨rfl, Nat.le_of_ble_eq_true rfl⟩
theorem ldxAby (w : Word) : Statement (.ldxAby w) := ⟨rfl, Nat.le_of_ble_eq_true rfl⟩
theorem ldyImm (b : Byte) : Statement (.ldyImm b) := ⟨rfl, Nat.le_of_ble_eq_true rfl⟩
theorem ldyZp0 (b : Byte) : Statement (.ldyZp0 b) := ⟨rfl, Nat.le_of_ble_eq_true rfl⟩
theorem ldyZpx (b : Byte) : Statement (.ldyZpx b) := ⟨rfl, Nat.le_of_ble_eq_true rfl⟩
theorem ldyAbs (w : Word) : Statement (.ldyAbs w) := ⟨rfl, Nat.le_of_ble_eq_true rfl⟩
theorem ldyAbx (w : Word) : Statement (.ldyAbx w) := ⟨rfl, Nat.le_of_ble_eq_true rfl⟩
theorem staZp0 (b : Byte) : Statement (.staZp0 b) := ⟨rfl, Nat.le_of_ble_eq_true rfl⟩
theorem staZpx (b : Byte) : Statement (.staZpx b) := ⟨rfl, Nat.le_of_ble_eq_true rfl⟩
theorem staAbs (w : Word) : Statement (.staAbs w) := ⟨rfl, Nat.le_of_ble_eq_true rfl⟩
theorem staAbx (w : Word) : Statement (.staAbx w) := ⟨rfl, Nat.le_of_ble_eq_true rfl⟩
theorem staAby (w : Word) : Statement (.staAby w) := ⟨rfl, Nat.le_of_ble_eq_true rfl⟩
theorem staIzx (b : Byte) : Statement (.staIzx b) := ⟨rfl, Nat.le_of_ble_eq_true rfl⟩
theorem staIzy (b : Byte) : Statement (.staIzy b) := ⟨rfl, Nat.le_of_ble_eq_true rfl⟩
theorem stxZp0 (b : Byte) : Statement (.stxZp0 b) := ⟨rfl, Nat.le_of_ble_eq_true rfl⟩
theorem stxZpy (b : Byte) : Statement (.stxZpy b) := ⟨rfl, Nat.le_of_ble_eq_true rfl⟩
theorem stxAbs (w : Word) : Statement (.stxAbs w) := ⟨rfl, Nat.le_of_ble_eq_true rfl⟩
theorem styZp0 (b : Byte) : Statement (.styZp0 b) := ⟨rfl, Nat.le_of_ble_eq_true rfl⟩
theorem styZpx (b : Byte) : Statement (.styZpx b) := ⟨rfl, Nat.le_of_ble_eq_true rfl⟩
theorem styAbs (w : Word) : Statement (.styAbs w) := ⟨rfl, Nat.le_of_ble_eq_true rfl⟩
theorem tax : Statement .tax := ⟨rfl, Nat.le_of_ble_eq_true rfl⟩
theorem tay : Statement .tay := ⟨rfl, Nat.le_of_ble_eq_true rfl⟩
theorem txa : Statement .txa := ⟨rfl, Nat.le_of_ble_eq_true rfl⟩
theorem tya : Statement .tya := ⟨rfl, Nat.le_of_ble_eq_true rfl⟩
theorem tsx : Statement .tsx := ⟨rfl, Nat.le_of_ble_eq_true rfl⟩
theorem txs : Statement .txs := ⟨rfl, Nat.le_of_ble_eq_true rfl⟩
theorem adcImm (b : Byte) : Statement (.adcImm b) := ⟨rfl, Nat.le_of_ble_eq_true rfl⟩
theorem adcZp0 (b : Byte) : Statement (.adcZp0 b) := ⟨rfl, Nat.le_of_ble_eq_true rfl⟩
theorem adcZpx (b : Byte) : Statement (.adcZpx b) := ⟨rfl, Nat.le_of_ble_eq_true rfl⟩
theorem adcAbs (w : Word) : Statement (.adcAbs w) := ⟨rfl, Nat.le_of_ble_eq_true rfl⟩
theorem adcAbx (w : Word) : Statement (.adcAbx w) := ⟨rfl, Nat.le_of_ble_eq_true rfl⟩
theorem adcAby (w : Word) : Statement (.adcAby w) := ⟨rfl, Nat.le_of_ble_eq_true rfl⟩
theorem adcIzx (b : Byte) : Statement (.adcIzx b) := ⟨rfl, Nat.le_of_ble_eq_true rfl⟩
theorem adcIzy (b : Byte) : Statement (.adcIzy b) := ⟨rfl, Nat.le_of_ble_eq_true rfl⟩
theorem sbcImm (b : Byte) : Statement (.sbcImm b) := ⟨rfl, Nat.le_of_ble_eq_true rfl⟩
theorem sbcZp0 (b : Byte) : Statement (.sbcZp0 b) := ⟨rfl, Nat.le_of_ble_eq_true rfl⟩
theorem sbcZpx (b : Byte) : Statement (.sbcZpx b) := ⟨rfl, Nat.le_of_ble_eq_true rfl⟩
theorem sbcAbs (w : Word) : Statement (.sbcAbs w) := ⟨rfl, Nat.le_of_ble_eq_true rfl⟩
theorem sbcAbx (w : Word) : Statement (.sbcAbx w) := ⟨rfl, Nat.le_of_ble_eq_true rfl⟩
theorem sbcAby (w : Word) : Statement (.sbcAby w) := ⟨rfl, Nat.le_of_ble_eq_true rfl⟩
theorem sbcIzx (b : Byte) : Statement (.sbcIzx b) := ⟨rfl, Nat.le_of_ble_eq_true rfl⟩
theorem sbcIzy (b : Byte) : Statement (.sbcIzy b) := ⟨rfl, Nat.le_of_ble_eq_true rfl⟩
theorem andImm (b : Byte) : Statement (.andImm b) := ⟨rfl, Nat.le_of_ble_eq_true rfl⟩
theorem andZp0 (b : Byte) : Statement (.andZp0 b) := ⟨rfl, Nat.le_of_ble_eq_true rfl⟩
theorem andZpx (b : Byte) : Statement (.andZpx b) := ⟨rfl, Nat.le_of_ble_eq_true rfl⟩
theorem andAbs (w : Word) : Statement (.andAbs w) := ⟨rfl, Nat.le_of_ble_eq_true rfl⟩
theorem andAbx (w : Word) : Statement (.andAbx w) := ⟨rfl, Nat.le_of_ble_eq_true rfl⟩
theorem andAby (w : Word) : Statement (.andAby w) := ⟨rfl, Nat.le_of_ble_eq_true rfl⟩
theorem andIzx (b : Byte) : Statement (.andIzx b) := ⟨rfl, Nat.le_of_ble_eq_true rfl⟩
theorem andIzy (b : Byte) : Statement (.andIzy b) := ⟨rfl, Nat.le_of_ble_eq_true rfl⟩
theorem oraImm (b : Byte) : Statement (.oraImm b) := ⟨rfl, Nat.le_of_ble_eq_true rfl⟩
theorem oraZp0 (b : Byte) : Statement (.oraZp0 b) := ⟨rfl, Nat.le_of_ble_eq_true rfl⟩
theorem oraZpx (b : Byte) : Statement (.oraZpx b) := ⟨rfl, Nat.le_of_ble_eq_true rfl⟩
theorem oraAbs (w : Word) : Statement (.oraAbs w) := ⟨rfl, Nat.le_of_ble_eq_true rfl⟩
theorem oraAbx (w : Word) : Statement (.oraAbx w) := ⟨rfl, Nat.le_of_ble_eq_true rfl⟩
theorem oraAby (w : Word) : Statement (.oraAby w) := ⟨rfl, Nat.le_of_ble_eq_true rfl⟩
theorem oraIzx (b : Byte) : Statement (.oraIzx b) := ⟨rfl, Nat.le_of_ble_eq_true rfl⟩
theorem oraIzy (b : Byte) : Statement (.oraIzy b) := ⟨rfl, Nat.le_of_ble_eq_true rfl⟩
theorem eorImm (b : Byte) : Statement (.eorImm b) := ⟨rfl, Nat.le_of_ble_eq_true rfl⟩
theorem eorZp0 (b : Byte) : Statement (.eorZp0 b) := ⟨rfl, Nat.le_of_ble_eq_true rfl⟩
theorem eorZpx (b : Byte) : Statement (.eorZpx b) := ⟨rfl, Nat.le_of_ble_eq_true rfl⟩
theorem eorAbs (w : Word) : Statement (.eorAbs w) := ⟨rfl, Nat.le_of_ble_eq_true rfl⟩
theorem eorAbx (w : Word) : Statement (.eorAbx w) := ⟨rfl, Nat.le_of_ble_eq_true rfl⟩
theorem eorAby (w : Word) : Statement (.eorAby w) := ⟨rfl, Nat.le_of_ble_eq_true rfl⟩
theorem eorIzx (b : Byte) : Statement (.eorIzx b) := ⟨rfl, Nat.le_of_ble_eq_true rfl⟩
theorem eorIzy (b : Byte) : Statement (.eorIzy b) := ⟨rfl, Nat.le_of_ble_eq_true rfl⟩
theorem bitZp0 (b : Byte) : Statement (.bitZp0 b) := ⟨rfl, Nat.le_of_ble_eq_true rfl⟩
theorem bitAbs (w : Word) : Statement (.bitAbs w) := ⟨rfl, Nat.le_of_ble_eq_true rfl⟩
theorem cmpImm (b : Byte) : Statement (.cmpImm b) := ⟨rfl, Nat.le_of_ble_eq_true rfl⟩
theorem cmpZp0 (b : Byte) : Statement (.cmpZp0 b) := ⟨rfl, Nat.le_of_ble_eq_true rfl⟩
theorem cmpZpx (b : Byte) : Statement (.cmpZpx b) := ⟨rfl, Nat.le_of_ble_eq_true rfl⟩
theorem cmpAbs (w : Word) : Statement (.cmpAbs w) := ⟨rfl, Nat.le_of_ble_eq_true rfl⟩
theorem cmpAbx (w : Word) : Statement (.cmpAbx w) := ⟨rfl, Nat.le_of_ble_eq_true rfl⟩
theorem cmpAby (w : Word) : Statement (.cmpAby w) := ⟨rfl, Nat.le_of_ble_eq_true rfl⟩
theorem cmpIzx (b : Byte) : Statement (.cmpIzx b) := ⟨rfl, Nat.le_of_ble_eq_true rfl⟩
theorem cmpIzy (b : Byte) : Statement (.cmpIzy b) := ⟨rfl, Nat.le_of_ble_eq_true rfl⟩
theorem cpxImm (b : Byte) : Statement (.cpxImm b) := ⟨rfl, Nat.le_of_ble_eq_true rfl⟩
theorem cpxZp0 (b : Byte) : Statement (.cpxZp0 b) := ⟨rfl, Nat.le_of_ble_eq_true rfl⟩
theorem cpxAbs (w : Word) : Statement (.cpxAbs w) := ⟨rfl, Nat.le_of_ble_eq_true rfl⟩
theorem cpyImm (b : Byte) : Statement (.cpyImm b) := ⟨rfl, Nat.le_of_ble_eq_true rfl⟩
theorem cpyZp0 (b : Byte) : Statement (.cpyZp0 b) := ⟨rfl, Nat.le_of_ble_eq_true rfl⟩
theorem cpyAbs (w : Word) : Statement (.cpyAbs w) := ⟨rfl, Nat.le_of_ble_eq_true rfl⟩
theorem incZp0 (b : Byte) : Statement (.incZp0 b) := ⟨rfl, Nat.le_of_ble_eq_true rfl⟩
theorem incZpx (b : Byte) : Statement (.incZpx b) := ⟨rfl, Nat.le_of_ble_eq_true rfl⟩
theorem incAbs (w : Word) : Statement (.incAbs w) := ⟨rfl, Nat.le_of_ble_eq_true rfl⟩
theorem incAbx (w : Word) : Statement (.incAbx w) := ⟨rfl, Nat.le_of_ble_eq_true rfl⟩
theorem decZp0 (b : Byte) : Statement (.decZp0 b) := ⟨rfl, Nat.le_of_ble_eq_true rfl⟩
theorem decZpx (b : Byte) : Statement (.decZpx b) := ⟨rfl, Nat.le_of_ble_eq_true rfl⟩
theorem decAbs (w : Word) : Statement (.decAbs w) := ⟨rfl, Nat.le_of_ble_eq_true rfl⟩
theorem decAbx (w : Word) : Statement (.decAbx w) := ⟨rfl, Nat.le_of_ble_eq_true rfl⟩
theorem inx : Statement .inx := ⟨rfl, Nat.le_of_ble_eq_true rfl⟩
theorem iny : Statement .iny := ⟨rfl, Nat.le_of_ble_eq_true rfl⟩
theorem dex : Statement .dex := ⟨rfl, Nat.le_of_ble_eq_true rfl⟩
theorem dey : Statement .dey := ⟨rfl, Nat.le_of_ble_eq_true rfl⟩
theorem aslImp : Statement .aslImp := ⟨rfl, Nat.le_of_ble_eq_true rfl⟩
theorem aslZp0 (b : Byte) : Statement (.aslZp0 b) := ⟨rfl, Nat.le_of_ble_eq_true rfl⟩
theorem aslZpx (b : Byte) : Statement (.aslZpx b) := ⟨rfl, Nat.le_of_ble_eq_true rfl⟩
theorem aslAbs (w : Word) : Statement (.aslAbs w) := ⟨rfl, Nat.le_of_ble_eq_true rfl⟩
theorem aslAbx (w : Word) : Statement (.aslAbx w) := ⟨rfl, Nat.le_of_ble_eq_true rfl⟩
theorem lsrImp : Statement .lsrImp := ⟨rfl, Nat.le_of_ble_eq_true rfl⟩
theorem lsrZp0 (b : Byte) : Statement (.lsrZp0 b) := ⟨rfl, Nat.le_of_ble_eq_true rfl⟩
theorem lsrZpx (b : Byte) : Statement (.lsrZpx b) := ⟨rfl, Nat.le_of_ble_eq_true rfl⟩
theorem lsrAbs (w : Word) : Statement (.lsrAbs w) := ⟨rfl, Nat.le_of_ble_eq_true rfl⟩
theorem lsrAbx (w : Word) : Statement (.lsrAbx w) := ⟨rfl, Nat.le_of_ble_eq_true rfl⟩
theorem rolImp : Statement .rolImp := ⟨rfl, Nat.le_of_ble_eq_true rfl⟩
theorem rolZp0 (b : Byte) : Statement (.rolZp0 b) := ⟨rfl, Nat.le_of_ble_eq_true rfl⟩
theorem rolZpx (b : Byte) : Statement (.rolZpx b) := ⟨rfl, Nat.le_of_ble_eq_true rfl⟩
theorem rolAbs (w : Word) : Statement (.rolAbs w) := ⟨rfl, Nat.le_of_ble_eq_true rfl⟩
theorem rolAbx (w : Word) : Statement (.rolAbx w) := ⟨rfl, Nat.le_of_ble_eq_true rfl⟩
theorem rorImp : Statement .rorImp := ⟨rfl, Nat.le_of_ble_eq_true rfl⟩
theorem rorZp0 (b : Byte) : Statement (.rorZp0 b) := ⟨rfl, Nat.le_of_ble_eq_true rfl⟩
theorem rorZpx (b : Byte) : Statement (.rorZpx b) := ⟨rfl, Nat.le_of_ble_eq_true rfl⟩
theorem rorAbs (w : Word) : Statement (.rorAbs w) := ⟨rfl, Nat.le_of_ble_eq_true rfl⟩
theorem rorAbx (w : Word) : Statement (.rorAbx w) := ⟨rfl, Nat.le_of_ble_eq_true rfl⟩
theorem bcc (b : Byte) : Statement (.bcc b) := ⟨rfl, Nat.le_of_ble_eq_true rfl⟩
theorem bcs (b : Byte) : Statement (.bcs b) := ⟨rfl, Nat.le_of_ble_eq_true rfl⟩
theorem beq (b : Byte) : Statement (.beq b) := ⟨rfl, Nat.le_of_ble_eq_true rfl⟩
theorem bne (b : Byte) : Statement (.bne b) := ⟨rfl, Nat.le_of_ble_eq_true rfl⟩
theorem bpl (b : Byte) : Statement (.bpl b) := ⟨rfl, Nat.le_of_ble_eq_true rfl⟩
theorem bmi (b : Byte) : Statement (.bmi b) := ⟨rfl, Nat.le_of_ble_eq_true rfl⟩
theorem bvc (b : Byte) : Statement (.bvc b) := ⟨rfl, Nat.le_of_ble_eq_true rfl⟩
theorem bvs (b : Byte) : Statement (.bvs b) := ⟨rfl, Nat.le_of_ble_eq_true rfl⟩
theorem jmpAbs (w : Word) : Statement (.jmpAbs w) := ⟨rfl, Nat.le_of_ble_eq_true rfl⟩
theorem jmpInd (w : Word) : Statement (.jmpInd w) := ⟨rfl, Nat.le_of_ble_eq_true rfl⟩
theorem jsr (w : Word) : Statement (.jsr w) := ⟨rfl, Nat.le_of_ble_eq_true rfl⟩
theorem rts : Statement .rts := ⟨rfl, Nat.le_of_ble_eq_true rfl⟩
theorem pha : Statement .pha := ⟨rfl, Nat.le_of_ble_eq_true rfl⟩
theorem php : Statement .php := ⟨rfl, Nat.le_of_ble_eq_true rfl⟩
theorem pla : Statement .pla := ⟨rfl, Nat.le_of_ble_eq_true rfl⟩
theorem plp : Statement .plp := ⟨rfl, Nat.le_of_ble_eq_true rfl⟩
theorem clc : Statement .clc := ⟨rfl, Nat.le_of_ble_eq_true rfl⟩
theorem sec : Statement .sec := ⟨rfl, Nat.le_of_ble_eq_true rfl⟩
theorem cli : Statement .cli := ⟨rfl, Nat.le_of_ble_eq_true rfl⟩
theorem sei : Statement .sei := ⟨rfl, Nat.le_of_ble_eq_true rfl⟩
theorem clv : Statement .clv := ⟨rfl, Nat.le_of_ble_eq_true rfl⟩
theorem cld : Statement .cld := ⟨rfl, Nat.le_of_ble_eq_true rfl⟩
theorem sed : Statement .sed := ⟨rfl, Nat.le_of_ble_eq_true rfl⟩
theorem nop : Statement .nop := ⟨rfl, Nat.le_of_ble_eq_true rfl⟩
theorem brk : Statement .brk := ⟨rfl, Nat.le_of_ble_eq_true rfl⟩
theorem rti : Statement .rti := ⟨rfl, Nat.le_of_ble_eq_true rfl⟩
theorem ill (op : Byte) : Statement (.ill op) := ⟨rfl, Nat.le_of_ble_eq_true rfl⟩

end Sys2Proof.Laws.Encoding
end

