-- ==== Sys2Proof/Laws/Picture.lean ====
section
/-! SUPPORT. What the picture unit's clock step can change. -/

namespace Sys2Proof.Machine

/-- What the fetches, shifts and scroll updates of a scanline leave alone: everything outside the picture unit,
and of the unit all but the three status bits, `vram`, the fetch latches and the shifters. -/
structure PipelineOnly (s t : State) : Prop where
  outside : { t with ppu := s.ppu } = s
  nmiPending : t.ppu.nmiPending = s.ppu.nmiPending
  scanline : t.ppu.scanline = s.ppu.scanline
  cycle : t.ppu.cycle = s.ppu.cycle
  control : t.ppu.control = s.ppu.control
  mask : t.ppu.mask = s.ppu.mask
  tram : t.ppu.tram = s.ppu.tram
  fineX : t.ppu.fineX = s.ppu.fineX
  addrLatch : t.ppu.addrLatch = s.ppu.addrLatch
  dataBuffer : t.ppu.dataBuffer = s.ppu.dataBuffer
  oamAddr : t.ppu.oamAddr = s.ppu.oamAddr
  nt0 : t.ppu.nt0 = s.ppu.nt0
  nt1 : t.ppu.nt1 = s.ppu.nt1
  pal : t.ppu.pal = s.ppu.pal
  oam : t.ppu.oam = s.ppu.oam
  frame : t.ppu.frame = s.ppu.frame
  frameComplete : t.ppu.frameComplete = s.ppu.frameComplete
  sprite0 : s.ppu.sprite0 = false → t.ppu.sprite0 = false
  overflow : s.ppu.overflow = false → t.ppu.overflow = false

namespace PipelineOnly

theorem refl (s : State) : PipelineOnly s s := by constructor <;> first | rfl | exact id

theorem trans {s t u : State} (h : PipelineOnly s t) (k : PipelineOnly t u) : PipelineOnly s u := by
  refine ⟨?_, k.nmiPending.trans h.nmiPending, k.scanline.trans h.scanline, k.cycle.trans h.cycle,
    k.control.trans h.control, k.mask.trans h.mask, k.tram.trans h.tram, k.fineX.trans h.fineX,
    k.addrLatch.trans h.addrLatch, k.dataBuffer.trans h.dataBuffer, k.oamAddr.trans h.oamAddr,
    k.nt0.trans h.nt0, k.nt1.trans h.nt1, k.pal.trans h.pal, k.oam.trans h.oam, k.frame.trans h.frame,
    k.frameComplete.trans h.frameComplete, fun e => k.sprite0 (h.sprite0 e),
    fun e => k.overflow (h.overflow e)⟩
  have h1 := h.outside
  have h2 := k.outside
  rw [← h2] at h1
  exact h1

theorem onlyIf {s t : State} {c : Bool} {f : State → State} (h : PipelineOnly s t)
    (hf : ∀ u, PipelineOnly u (f u)) : PipelineOnly s (t.onlyIf c f) := by
  cases c
  · exact h
  · exact h.trans (hf t)

theorem shiftBg (s : State) : PipelineOnly s (s.onPpu Ppu.shiftBg) := by
  simp only [State.onPpu, Ppu.shiftBg]
  split <;> constructor <;> first | rfl | exact id

theorem loadShifters (s : State) : PipelineOnly s (s.onPpu Ppu.loadShifters) := by
  simp only [State.onPpu, Ppu.loadShifters]
  split <;> constructor <;> first | rfl | exact id

theorem incX (s : State) : PipelineOnly s (s.onPpu Ppu.incX) := by
  simp only [State.onPpu, Ppu.incX]
  split
  · split <;> constructor <;> first | rfl | exact id
  · exact refl s

theorem incY (s : State) : PipelineOnly s (s.onPpu Ppu.incY) := by
  simp only [State.onPpu, Ppu.incY]
  repeat' split
  all_goals constructor <;> first | rfl | exact id

theorem transferX (s : State) : PipelineOnly s (s.onPpu Ppu.transferX) := by
  simp only [State.onPpu, Ppu.transferX]
  split <;> constructor <;> first | rfl | exact id

theorem transferY (s : State) : PipelineOnly s (s.onPpu Ppu.transferY) := by
  simp only [State.onPpu, Ppu.transferY]
  split <;> constructor <;> first | rfl | exact id

theorem clearStatus (s : State) : PipelineOnly s (s.onPpu Ppu.clearStatus) := by
  constructor <;> first | rfl | exact fun _ => rfl

theorem fetchNt (s : State) : PipelineOnly s s.fetchNt := by constructor <;> first | rfl | exact id

theorem subStep (s : State) : PipelineOnly s s.subStep := by
  simp only [State.subStep]
  split
  · exact (loadShifters s).trans (fetchNt _)
  · constructor <;> first | rfl | exact id
  · constructor <;> first | rfl | exact id
  · constructor <;> first | rfl | exact id
  · exact incX s
  · exact refl s

/-- The work of a scanline is the pipeline's. -/
theorem scanlineWork (s : State) : PipelineOnly s s.scanlineWork := by
  refine onlyIf (onlyIf (onlyIf (onlyIf (onlyIf (onlyIf (refl s) clearStatus) fun u => ?_) incY) fun u => ?_)
    fetchNt) transferY
  · exact (shiftBg u).trans (subStep _)
  · exact (loadShifters u).trans (transferX _)

end PipelineOnly

theorem pixelAddr_ge (p : Ppu) : 0x3F00 ≤ p.pixelAddr := by
  simp only [Ppu.pixelAddr]
  generalize (p.showBg && p.shAttHi.getLsbD (15 - p.fineX.toNat)) = b3
  generalize (p.showBg && p.shAttLo.getLsbD (15 - p.fineX.toNat)) = b2
  generalize (p.showBg && p.shPatHi.getLsbD (15 - p.fineX.toNat)) = b1
  generalize (p.showBg && p.shPatLo.getLsbD (15 - p.fineX.toNat)) = b0
  cases b3 <;> cases b2 <;> cases b1 <;> cases b0 <;> decide

theorem Ppu.palRead_lt (p : Ppu) (a : PpuAddr) : (p.palRead a).toNat < 64 := by
  simp only [Ppu.palRead]
  generalize p.pal.read (palIndex a) = v
  generalize p.grayscale = g
  revert v g
  decide

/-- Vertical blank changes the status bit and the request only (R421). -/
theorem State.vblankEntry_eq (s : State) (c : Bool) :
    s.onlyIf c (·.onPpu Ppu.vblankEntry) =
      s.setPpu { s.ppu with vblank := s.ppu.vblank || c,
                            nmiPending := s.ppu.nmiPending || (c && s.ppu.control.getLsbD 7) } := by
  cases c <;>
    simp only [Bool.or_true, Bool.or_false, Bool.true_and, Bool.false_and, State.onlyIf_true, State.onlyIf_false]
      <;> rfl

/-- A pixel changes one cell of the frame only, inside the frame, to a 6-bit index (R425). -/
theorem State.emitPixel_cases (s : State) :
    s.onlyIf s.ppu.onVisiblePixel State.emitPixel = s ∨
    ∃ k v, k < 61440 ∧ v.toNat < 64 ∧
      s.onlyIf s.ppu.onVisiblePixel State.emitPixel =
        s.setPpu { s.ppu with frame := s.ppu.frame.write k v } := by
  cases hv : s.ppu.onVisiblePixel with
  | false => exact .inl rfl
  | true =>
    refine .inr ⟨s.ppu.frameIndex, s.ppuRead s.ppu.pixelAddr, ?_, ?_, rfl⟩
    · simp only [Ppu.onVisiblePixel, Bool.and_eq_true, decide_eq_true_eq] at hv
      simp only [Ppu.frameIndex]
      omega
    · rw [State.ppuRead, if_pos (pixelAddr_ge _)]
      exact Ppu.palRead_lt _ _

/-- The counters are all that their advance changes, with `frame_complete` (R396). -/
theorem Ppu.advanceCounters_eq (p : Ppu) :
    p.advanceCounters =
      { p with
        cycle := if p.cycle + 1 = 341 then 0 else p.cycle + 1
        scanline := if p.cycle + 1 = 341 then (if p.scanline + 1 = 261 then -1 else p.scanline + 1)
          else p.scanline
        frameComplete := p.frameComplete ||
          (decide (p.cycle + 1 = 341) && decide (p.scanline + 1 = 261)) } := by
  simp only [Ppu.advanceCounters]
  by_cases h1 : p.cycle + 1 = 341
  · by_cases h2 : p.scanline + 1 = 261
    · simp [h1, h2]
    · simp [h1, h2]
  · simp [h1]

/-- What the picture unit's clock step leaves alone (R395): everything outside the unit, and the unit's
memories but for one pixel inside the frame, a 6-bit index. -/
structure PictureStep (s t : State) : Prop where
  outside : { t with ppu := s.ppu } = s
  control : t.ppu.control = s.ppu.control
  mask : t.ppu.mask = s.ppu.mask
  addrLatch : t.ppu.addrLatch = s.ppu.addrLatch
  oamAddr : t.ppu.oamAddr = s.ppu.oamAddr
  nt0 : t.ppu.nt0 = s.ppu.nt0
  nt1 : t.ppu.nt1 = s.ppu.nt1
  pal : t.ppu.pal = s.ppu.pal
  oam : t.ppu.oam = s.ppu.oam
  frame : t.ppu.frame = s.ppu.frame ∨
    ∃ k v, k < 61440 ∧ v.toNat < 64 ∧ t.ppu.frame = s.ppu.frame.write k v
  nmiPending : t.ppu.nmiPending =
    (s.ppu.nmiPending || (decide (s.ppu.scanline = 241) && s.ppu.cycle == 1 && s.ppu.control.getLsbD 7))
  cycle : t.ppu.cycle = if s.ppu.cycle + 1 = 341 then 0 else s.ppu.cycle + 1
  scanline : t.ppu.scanline =
    if s.ppu.cycle + 1 = 341 then (if s.ppu.scanline + 1 = 261 then -1 else s.ppu.scanline + 1)
    else s.ppu.scanline
  sprite0 : s.ppu.sprite0 = false → t.ppu.sprite0 = false
  overflow : s.ppu.overflow = false → t.ppu.overflow = false

/-- The three parts of the step that follow the scanline's work. -/
theorem PipelineOnly.finish {s u : State} (h : PipelineOnly s u) {c : Bool}
    (hc : c = (decide (s.ppu.scanline = 241) && s.ppu.cycle == 1)) :
    PictureStep s
      (((u.onlyIf c (·.onPpu Ppu.vblankEntry)).onlyIf
        (u.onlyIf c (·.onPpu Ppu.vblankEntry)).ppu.onVisiblePixel State.emitPixel).onPpu
        Ppu.advanceCounters) := by
  generalize hv : u.onlyIf c (·.onPpu Ppu.vblankEntry) = v
  rw [State.vblankEntry_eq] at hv
  have hn : (u.ppu.nmiPending || (c && u.ppu.control.getLsbD 7)) =
      (s.ppu.nmiPending || (decide (s.ppu.scanline = 241) && s.ppu.cycle == 1 && s.ppu.control.getLsbD 7)) := by
    rw [hc, h.nmiPending, h.control]
  obtain he | ⟨k, w, hk, hw, he⟩ := v.emitPixel_cases
  · rw [he, State.onPpu, Ppu.advanceCounters_eq]
    subst hv
    exact ⟨h.outside, h.control, h.mask, h.addrLatch, h.oamAddr, h.nt0, h.nt1, h.pal, h.oam, .inl h.frame, hn,
      by rw [← h.cycle]; rfl, by rw [← h.cycle, ← h.scanline]; rfl, h.sprite0, h.overflow⟩
  · rw [he, State.onPpu, Ppu.advanceCounters_eq]
    subst hv
    exact ⟨h.outside, h.control, h.mask, h.addrLatch, h.oamAddr, h.nt0, h.nt1, h.pal, h.oam,
      .inr ⟨k, w, hk, hw, by rw [← h.frame]; rfl⟩, hn,
      by rw [← h.cycle]; rfl, by rw [← h.cycle, ← h.scanline]; rfl, h.sprite0, h.overflow⟩

theorem State.ppuClock_step (s : State) : PictureStep s s.ppuClock := by
  have h0 : PipelineOnly s (s.onlyIf s.ppu.onRenderLine State.scanlineWork) :=
    PipelineOnly.onlyIf (PipelineOnly.refl s) PipelineOnly.scanlineWork
  refine h0.finish ?_
  rw [h0.scanline, h0.cycle]

/-- What the PPU and APU steps of a tick leave alone: the CPU, the RAM, the bus, the cartridge, the DMA
controller and the count. -/
theorem State.deviceClock_frame (s : State) :
    s.deviceClock.cpu = s.cpu ∧ s.deviceClock.ram = s.ram ∧ s.deviceClock.openBus = s.openBus ∧
    s.deviceClock.ctrlShift0 = s.ctrlShift0 ∧ s.deviceClock.ctrlShift1 = s.ctrlShift1 ∧
    s.deviceClock.controller0 = s.controller0 ∧ s.deviceClock.controller1 = s.controller1 ∧
    s.deviceClock.clock = s.clock ∧ s.deviceClock.dma = s.dma ∧ s.deviceClock.cart = s.cart ∧
    s.deviceClock.params = s.params ∧ s.deviceClock.draws = s.draws := by
  have h := s.ppuClock_step.outside
  have h0 : s.ppuClock.cpu = s.cpu := by have e := congrArg State.cpu h; exact e
  have h1 : s.ppuClock.ram = s.ram := by have e := congrArg State.ram h; exact e
  have h2 : s.ppuClock.openBus = s.openBus := by have e := congrArg State.openBus h; exact e
  have h3 : s.ppuClock.ctrlShift0 = s.ctrlShift0 := by have e := congrArg State.ctrlShift0 h; exact e
  have h4 : s.ppuClock.ctrlShift1 = s.ctrlShift1 := by have e := congrArg State.ctrlShift1 h; exact e
  have h5 : s.ppuClock.controller0 = s.controller0 := by have e := congrArg State.controller0 h; exact e
  have h6 : s.ppuClock.controller1 = s.controller1 := by have e := congrArg State.controller1 h; exact e
  have h7 : s.ppuClock.clock = s.clock := by have e := congrArg State.clock h; exact e
  have h8 : s.ppuClock.dma = s.dma := by have e := congrArg State.dma h; exact e
  have h9 : s.ppuClock.cart = s.cart := by have e := congrArg State.cart h; exact e
  have h10 : s.ppuClock.params = s.params := by have e := congrArg State.params h; exact e
  have h11 : s.ppuClock.draws = s.draws := by have e := congrArg State.draws h; exact e
  exact ⟨h0, h1, h2, h3, h4, h5, h6, h7, h8, h9, h10, h11⟩

/-- The picture unit after the device steps is the picture unit after its own. -/
@[simp] theorem State.deviceClock_ppu (s : State) : s.deviceClock.ppu = s.ppuClock.ppu := rfl

/-- The audio unit after the device steps is one tick further. -/
theorem State.deviceClock_apu (s : State) : s.deviceClock.apu = s.apu.tick := by
  have h : s.ppuClock.apu = s.apu := by
    have e := congrArg State.apu s.ppuClock_step.outside
    exact e
  simp only [State.deviceClock, State.setApu_apu, h]

end Sys2Proof.Machine
end

