-- ==== Sys2Proof/Laws/Vram.lean ====
section
/-! SUPPORT. The fields of the VRAM address register (R381): each update sets its own field and no other. -/

namespace Sys2Proof.Machine

@[simp] theorem coarseX_withCoarseX (r : BitVec 15) (x : BitVec 5) : coarseX (withCoarseX r x) = x := by
  refine BitVec.eq_of_getLsbD_eq fun i hi => ?_
  interval_cases i <;> simp [coarseX, withCoarseX]
@[simp] theorem coarseY_withCoarseX (r : BitVec 15) (x : BitVec 5) : coarseY (withCoarseX r x) = coarseY r := by
  refine BitVec.eq_of_getLsbD_eq fun i hi => ?_
  interval_cases i <;> simp [coarseY, withCoarseX]
@[simp] theorem ntX_withCoarseX (r : BitVec 15) (x : BitVec 5) : ntX (withCoarseX r x) = ntX r := by
  simp [ntX, withCoarseX]
@[simp] theorem ntY_withCoarseX (r : BitVec 15) (x : BitVec 5) : ntY (withCoarseX r x) = ntY r := by
  simp [ntY, withCoarseX]
@[simp] theorem fineY_withCoarseX (r : BitVec 15) (x : BitVec 5) : fineY (withCoarseX r x) = fineY r := by
  refine BitVec.eq_of_getLsbD_eq fun i hi => ?_
  interval_cases i <;> simp [fineY, withCoarseX]
@[simp] theorem coarseX_withCoarseY (r : BitVec 15) (y : BitVec 5) : coarseX (withCoarseY r y) = coarseX r := by
  refine BitVec.eq_of_getLsbD_eq fun i hi => ?_
  interval_cases i <;> simp [coarseX, withCoarseY]
@[simp] theorem coarseY_withCoarseY (r : BitVec 15) (y : BitVec 5) : coarseY (withCoarseY r y) = y := by
  refine BitVec.eq_of_getLsbD_eq fun i hi => ?_
  interval_cases i <;> simp [coarseY, withCoarseY]
@[simp] theorem ntX_withCoarseY (r : BitVec 15) (y : BitVec 5) : ntX (withCoarseY r y) = ntX r := by
  simp [ntX, withCoarseY]
@[simp] theorem ntY_withCoarseY (r : BitVec 15) (y : BitVec 5) : ntY (withCoarseY r y) = ntY r := by
  simp [ntY, withCoarseY]
@[simp] theorem fineY_withCoarseY (r : BitVec 15) (y : BitVec 5) : fineY (withCoarseY r y) = fineY r := by
  refine BitVec.eq_of_getLsbD_eq fun i hi => ?_
  interval_cases i <;> simp [fineY, withCoarseY]
@[simp] theorem coarseX_withNtX (r : BitVec 15) (b : Bool) : coarseX (withNtX r b) = coarseX r := by
  refine BitVec.eq_of_getLsbD_eq fun i hi => ?_
  interval_cases i <;> cases b <;> simp [coarseX, withNtX]
@[simp] theorem coarseY_withNtX (r : BitVec 15) (b : Bool) : coarseY (withNtX r b) = coarseY r := by
  refine BitVec.eq_of_getLsbD_eq fun i hi => ?_
  interval_cases i <;> cases b <;> simp [coarseY, withNtX]
@[simp] theorem ntX_withNtX (r : BitVec 15) (b : Bool) : ntX (withNtX r b) = b := by
  cases b <;> simp [ntX, withNtX]
@[simp] theorem ntY_withNtX (r : BitVec 15) (b : Bool) : ntY (withNtX r b) = ntY r := by
  cases b <;> simp [ntY, withNtX]
@[simp] theorem fineY_withNtX (r : BitVec 15) (b : Bool) : fineY (withNtX r b) = fineY r := by
  refine BitVec.eq_of_getLsbD_eq fun i hi => ?_
  interval_cases i <;> cases b <;> simp [fineY, withNtX]
@[simp] theorem coarseX_withNtY (r : BitVec 15) (b : Bool) : coarseX (withNtY r b) = coarseX r := by
  refine BitVec.eq_of_getLsbD_eq fun i hi => ?_
  interval_cases i <;> cases b <;> simp [coarseX, withNtY]
@[simp] theorem coarseY_withNtY (r : BitVec 15) (b : Bool) : coarseY (withNtY r b) = coarseY r := by
  refine BitVec.eq_of_getLsbD_eq fun i hi => ?_
  interval_cases i <;> cases b <;> simp [coarseY, withNtY]
@[simp] theorem ntX_withNtY (r : BitVec 15) (b : Bool) : ntX (withNtY r b) = ntX r := by
  cases b <;> simp [ntX, withNtY]
@[simp] theorem ntY_withNtY (r : BitVec 15) (b : Bool) : ntY (withNtY r b) = b := by
  cases b <;> simp [ntY, withNtY]
@[simp] theorem fineY_withNtY (r : BitVec 15) (b : Bool) : fineY (withNtY r b) = fineY r := by
  refine BitVec.eq_of_getLsbD_eq fun i hi => ?_
  interval_cases i <;> cases b <;> simp [fineY, withNtY]
@[simp] theorem coarseX_withFineY (r : BitVec 15) (f : BitVec 3) : coarseX (withFineY r f) = coarseX r := by
  refine BitVec.eq_of_getLsbD_eq fun i hi => ?_
  interval_cases i <;> simp [coarseX, withFineY]
@[simp] theorem coarseY_withFineY (r : BitVec 15) (f : BitVec 3) : coarseY (withFineY r f) = coarseY r := by
  refine BitVec.eq_of_getLsbD_eq fun i hi => ?_
  interval_cases i <;> simp [coarseY, withFineY]
@[simp] theorem ntX_withFineY (r : BitVec 15) (f : BitVec 3) : ntX (withFineY r f) = ntX r := by
  simp [ntX, withFineY]
@[simp] theorem ntY_withFineY (r : BitVec 15) (f : BitVec 3) : ntY (withFineY r f) = ntY r := by
  simp [ntY, withFineY]
@[simp] theorem fineY_withFineY (r : BitVec 15) (f : BitVec 3) : fineY (withFineY r f) = f := by
  refine BitVec.eq_of_getLsbD_eq fun i hi => ?_
  interval_cases i <;> simp [fineY, withFineY]

end Sys2Proof.Machine
end

