-- ==== Sys2Proof/Tests/Slice0.lean ====
section
/-! SUPPORT. The model's own tests: the well-formedness smoke test, a decoding of every constructor by a word
written out from R131 to R135, single steps with the results of spec/95_test_vectors.md, and for every obligation with
hypotheses a concrete state and operands that meet them. -/

namespace Sys2Proof.Tests

open Sys2Proof Sys2Proof.Machine

/-! ### Well-formedness (the smoke test): a placeholder must hold one of the 105 bytes -/

theorem test_wellFormed_refuses_documented_byte : (Instr.ill 0xEA).wellFormed = false := by decide
theorem test_wellFormed_refuses_brk_byte : (Instr.ill 0x00).wellFormed = false := by decide
theorem test_wellFormed_accepts_placeholder : (Instr.ill 0x02).wellFormed = true := by decide
theorem test_wellFormed_accepts_documented : (Instr.ldaImm 0xFF).wellFormed = true := by decide

/-! ### Decoding: one word for every constructor, from the formats of R131 and the opcodes of R135 -/

theorem test_decode_loads :
    decode [0xA9, 0x81] = .ok (.ldaImm 0x81, []) ∧
    decode [0xA5, 0x81] = .ok (.ldaZp0 0x81, []) ∧
    decode [0xB5, 0x81] = .ok (.ldaZpx 0x81, []) ∧
    decode [0xAD, 0x34, 0x92] = .ok (.ldaAbs 0x9234, []) ∧
    decode [0xBD, 0x34, 0x92] = .ok (.ldaAbx 0x9234, []) ∧
    decode [0xB9, 0x34, 0x92] = .ok (.ldaAby 0x9234, []) ∧
    decode [0xA1, 0x81] = .ok (.ldaIzx 0x81, []) ∧
    decode [0xB1, 0x81] = .ok (.ldaIzy 0x81, []) ∧
    decode [0xA2, 0x81] = .ok (.ldxImm 0x81, []) ∧
    decode [0xA6, 0x81] = .ok (.ldxZp0 0x81, []) ∧
    decode [0xB6, 0x81] = .ok (.ldxZpy 0x81, []) ∧
    decode [0xAE, 0x34, 0x92] = .ok (.ldxAbs 0x9234, []) ∧
    decode [0xBE, 0x34, 0x92] = .ok (.ldxAby 0x9234, []) ∧
    decode [0xA0, 0x81] = .ok (.ldyImm 0x81, []) ∧
    decode [0xA4, 0x81] = .ok (.ldyZp0 0x81, []) ∧
    decode [0xB4, 0x81] = .ok (.ldyZpx 0x81, []) ∧
    decode [0xAC, 0x34, 0x92] = .ok (.ldyAbs 0x9234, []) ∧
    decode [0xBC, 0x34, 0x92] = .ok (.ldyAbx 0x9234, []) := by
  refine ⟨rfl, rfl, rfl, rfl, rfl, rfl, rfl, rfl, rfl, rfl, rfl, rfl, rfl, rfl, rfl, rfl, rfl, rfl⟩

theorem test_decode_stores_transfers :
    decode [0x85, 0x81] = .ok (.staZp0 0x81, []) ∧
    decode [0x95, 0x81] = .ok (.staZpx 0x81, []) ∧
    decode [0x8D, 0x34, 0x92] = .ok (.staAbs 0x9234, []) ∧
    decode [0x9D, 0x34, 0x92] = .ok (.staAbx 0x9234, []) ∧
    decode [0x99, 0x34, 0x92] = .ok (.staAby 0x9234, []) ∧
    decode [0x81, 0x81] = .ok (.staIzx 0x81, []) ∧
    decode [0x91, 0x81] = .ok (.staIzy 0x81, []) ∧
    decode [0x86, 0x81] = .ok (.stxZp0 0x81, []) ∧
    decode [0x96, 0x81] = .ok (.stxZpy 0x81, []) ∧
    decode [0x8E, 0x34, 0x92] = .ok (.stxAbs 0x9234, []) ∧
    decode [0x84, 0x81] = .ok (.styZp0 0x81, []) ∧
    decode [0x94, 0x81] = .ok (.styZpx 0x81, []) ∧
    decode [0x8C, 0x34, 0x92] = .ok (.styAbs 0x9234, []) ∧
    decode [0xAA] = .ok (.tax, []) ∧
    decode [0xA8] = .ok (.tay, []) ∧
    decode [0x8A] = .ok (.txa, []) ∧
    decode [0x98] = .ok (.tya, []) ∧
    decode [0xBA] = .ok (.tsx, []) ∧
    decode [0x9A] = .ok (.txs, []) := by
  refine ⟨rfl, rfl, rfl, rfl, rfl, rfl, rfl, rfl, rfl, rfl, rfl, rfl, rfl, rfl, rfl, rfl, rfl, rfl, rfl⟩

theorem test_decode_adc_sbc :
    decode [0x69, 0x81] = .ok (.adcImm 0x81, []) ∧
    decode [0x65, 0x81] = .ok (.adcZp0 0x81, []) ∧
    decode [0x75, 0x81] = .ok (.adcZpx 0x81, []) ∧
    decode [0x6D, 0x34, 0x92] = .ok (.adcAbs 0x9234, []) ∧
    decode [0x7D, 0x34, 0x92] = .ok (.adcAbx 0x9234, []) ∧
    decode [0x79, 0x34, 0x92] = .ok (.adcAby 0x9234, []) ∧
    decode [0x61, 0x81] = .ok (.adcIzx 0x81, []) ∧
    decode [0x71, 0x81] = .ok (.adcIzy 0x81, []) ∧
    decode [0xE9, 0x81] = .ok (.sbcImm 0x81, []) ∧
    decode [0xE5, 0x81] = .ok (.sbcZp0 0x81, []) ∧
    decode [0xF5, 0x81] = .ok (.sbcZpx 0x81, []) ∧
    decode [0xED, 0x34, 0x92] = .ok (.sbcAbs 0x9234, []) ∧
    decode [0xFD, 0x34, 0x92] = .ok (.sbcAbx 0x9234, []) ∧
    decode [0xF9, 0x34, 0x92] = .ok (.sbcAby 0x9234, []) ∧
    decode [0xE1, 0x81] = .ok (.sbcIzx 0x81, []) ∧
    decode [0xF1, 0x81] = .ok (.sbcIzy 0x81, []) := by
  refine ⟨rfl, rfl, rfl, rfl, rfl, rfl, rfl, rfl, rfl, rfl, rfl, rfl, rfl, rfl, rfl, rfl⟩

theorem test_decode_logic :
    decode [0x29, 0x81] = .ok (.andImm 0x81, []) ∧
    decode [0x25, 0x81] = .ok (.andZp0 0x81, []) ∧
    decode [0x35, 0x81] = .ok (.andZpx 0x81, []) ∧
    decode [0x2D, 0x34, 0x92] = .ok (.andAbs 0x9234, []) ∧
    decode [0x3D, 0x34, 0x92] = .ok (.andAbx 0x9234, []) ∧
    decode [0x39, 0x34, 0x92] = .ok (.andAby 0x9234, []) ∧
    decode [0x21, 0x81] = .ok (.andIzx 0x81, []) ∧
    decode [0x31, 0x81] = .ok (.andIzy 0x81, []) ∧
    decode [0x09, 0x81] = .ok (.oraImm 0x81, []) ∧
    decode [0x05, 0x81] = .ok (.oraZp0 0x81, []) ∧
    decode [0x15, 0x81] = .ok (.oraZpx 0x81, []) ∧
    decode [0x0D, 0x34, 0x92] = .ok (.oraAbs 0x9234, []) ∧
    decode [0x1D, 0x34, 0x92] = .ok (.oraAbx 0x9234, []) ∧
    decode [0x19, 0x34, 0x92] = .ok (.oraAby 0x9234, []) ∧
    decode [0x01, 0x81] = .ok (.oraIzx 0x81, []) ∧
    decode [0x11, 0x81] = .ok (.oraIzy 0x81, []) ∧
    decode [0x49, 0x81] = .ok (.eorImm 0x81, []) ∧
    decode [0x45, 0x81] = .ok (.eorZp0 0x81, []) ∧
    decode [0x55, 0x81] = .ok (.eorZpx 0x81, []) ∧
    decode [0x4D, 0x34, 0x92] = .ok (.eorAbs 0x9234, []) ∧
    decode [0x5D, 0x34, 0x92] = .ok (.eorAbx 0x9234, []) ∧
    decode [0x59, 0x34, 0x92] = .ok (.eorAby 0x9234, []) ∧
    decode [0x41, 0x81] = .ok (.eorIzx 0x81, []) ∧
    decode [0x51, 0x81] = .ok (.eorIzy 0x81, []) ∧
    decode [0x24, 0x81] = .ok (.bitZp0 0x81, []) ∧
    decode [0x2C, 0x34, 0x92] = .ok (.bitAbs 0x9234, []) := by
  refine ⟨rfl, rfl, rfl, rfl, rfl, rfl, rfl, rfl, rfl, rfl, rfl, rfl, rfl, rfl, rfl, rfl, rfl, rfl, rfl, rfl, rfl, rfl, rfl, rfl, rfl, rfl⟩

theorem test_decode_compares :
    decode [0xC9, 0x81] = .ok (.cmpImm 0x81, []) ∧
    decode [0xC5, 0x81] = .ok (.cmpZp0 0x81, []) ∧
    decode [0xD5, 0x81] = .ok (.cmpZpx 0x81, []) ∧
    decode [0xCD, 0x34, 0x92] = .ok (.cmpAbs 0x9234, []) ∧
    decode [0xDD, 0x34, 0x92] = .ok (.cmpAbx 0x9234, []) ∧
    decode [0xD9, 0x34, 0x92] = .ok (.cmpAby 0x9234, []) ∧
    decode [0xC1, 0x81] = .ok (.cmpIzx 0x81, []) ∧
    decode [0xD1, 0x81] = .ok (.cmpIzy 0x81, []) ∧
    decode [0xE0, 0x81] = .ok (.cpxImm 0x81, []) ∧
    decode [0xE4, 0x81] = .ok (.cpxZp0 0x81, []) ∧
    decode [0xEC, 0x34, 0x92] = .ok (.cpxAbs 0x9234, []) ∧
    decode [0xC0, 0x81] = .ok (.cpyImm 0x81, []) ∧
    decode [0xC4, 0x81] = .ok (.cpyZp0 0x81, []) ∧
    decode [0xCC, 0x34, 0x92] = .ok (.cpyAbs 0x9234, []) := by
  refine ⟨rfl, rfl, rfl, rfl, rfl, rfl, rfl, rfl, rfl, rfl, rfl, rfl, rfl, rfl⟩

theorem test_decode_increments :
    decode [0xE6, 0x81] = .ok (.incZp0 0x81, []) ∧
    decode [0xF6, 0x81] = .ok (.incZpx 0x81, []) ∧
    decode [0xEE, 0x34, 0x92] = .ok (.incAbs 0x9234, []) ∧
    decode [0xFE, 0x34, 0x92] = .ok (.incAbx 0x9234, []) ∧
    decode [0xC6, 0x81] = .ok (.decZp0 0x81, []) ∧
    decode [0xD6, 0x81] = .ok (.decZpx 0x81, []) ∧
    decode [0xCE, 0x34, 0x92] = .ok (.decAbs 0x9234, []) ∧
    decode [0xDE, 0x34, 0x92] = .ok (.decAbx 0x9234, []) ∧
    decode [0xE8] = .ok (.inx, []) ∧
    decode [0xC8] = .ok (.iny, []) ∧
    decode [0xCA] = .ok (.dex, []) ∧
    decode [0x88] = .ok (.dey, []) := by
  refine ⟨rfl, rfl, rfl, rfl, rfl, rfl, rfl, rfl, rfl, rfl, rfl, rfl⟩

theorem test_decode_shifts :
    decode [0x0A] = .ok (.aslImp, []) ∧
    decode [0x06, 0x81] = .ok (.aslZp0 0x81, []) ∧
    decode [0x16, 0x81] = .ok (.aslZpx 0x81, []) ∧
    decode [0x0E, 0x34, 0x92] = .ok (.aslAbs 0x9234, []) ∧
    decode [0x1E, 0x34, 0x92] = .ok (.aslAbx 0x9234, []) ∧
    decode [0x4A] = .ok (.lsrImp, []) ∧
    decode [0x46, 0x81] = .ok (.lsrZp0 0x81, []) ∧
    decode [0x56, 0x81] = .ok (.lsrZpx 0x81, []) ∧
    decode [0x4E, 0x34, 0x92] = .ok (.lsrAbs 0x9234, []) ∧
    decode [0x5E, 0x34, 0x92] = .ok (.lsrAbx 0x9234, []) ∧
    decode [0x2A] = .ok (.rolImp, []) ∧
    decode [0x26, 0x81] = .ok (.rolZp0 0x81, []) ∧
    decode [0x36, 0x81] = .ok (.rolZpx 0x81, []) ∧
    decode [0x2E, 0x34, 0x92] = .ok (.rolAbs 0x9234, []) ∧
    decode [0x3E, 0x34, 0x92] = .ok (.rolAbx 0x9234, []) ∧
    decode [0x6A] = .ok (.rorImp, []) ∧
    decode [0x66, 0x81] = .ok (.rorZp0 0x81, []) ∧
    decode [0x76, 0x81] = .ok (.rorZpx 0x81, []) ∧
    decode [0x6E, 0x34, 0x92] = .ok (.rorAbs 0x9234, []) ∧
    decode [0x7E, 0x34, 0x92] = .ok (.rorAbx 0x9234, []) := by
  refine ⟨rfl, rfl, rfl, rfl, rfl, rfl, rfl, rfl, rfl, rfl, rfl, rfl, rfl, rfl, rfl, rfl, rfl, rfl, rfl, rfl⟩

theorem test_decode_control_flow :
    decode [0x90, 0x81] = .ok (.bcc 0x81, []) ∧
    decode [0xB0, 0x81] = .ok (.bcs 0x81, []) ∧
    decode [0xF0, 0x81] = .ok (.beq 0x81, []) ∧
    decode [0xD0, 0x81] = .ok (.bne 0x81, []) ∧
    decode [0x10, 0x81] = .ok (.bpl 0x81, []) ∧
    decode [0x30, 0x81] = .ok (.bmi 0x81, []) ∧
    decode [0x50, 0x81] = .ok (.bvc 0x81, []) ∧
    decode [0x70, 0x81] = .ok (.bvs 0x81, []) ∧
    decode [0x4C, 0x34, 0x92] = .ok (.jmpAbs 0x9234, []) ∧
    decode [0x6C, 0x34, 0x92] = .ok (.jmpInd 0x9234, []) ∧
    decode [0x20, 0x34, 0x92] = .ok (.jsr 0x9234, []) ∧
    decode [0x60] = .ok (.rts, []) := by
  refine ⟨rfl, rfl, rfl, rfl, rfl, rfl, rfl, rfl, rfl, rfl, rfl, rfl⟩

theorem test_decode_stack_flags_system :
    decode [0x48] = .ok (.pha, []) ∧
    decode [0x08] = .ok (.php, []) ∧
    decode [0x68] = .ok (.pla, []) ∧
    decode [0x28] = .ok (.plp, []) ∧
    decode [0x18] = .ok (.clc, []) ∧
    decode [0x38] = .ok (.sec, []) ∧
    decode [0x58] = .ok (.cli, []) ∧
    decode [0x78] = .ok (.sei, []) ∧
    decode [0xB8] = .ok (.clv, []) ∧
    decode [0xD8] = .ok (.cld, []) ∧
    decode [0xF8] = .ok (.sed, []) ∧
    decode [0xEA] = .ok (.nop, []) ∧
    decode [0x00] = .ok (.brk, []) ∧
    decode [0x40] = .ok (.rti, []) := by
  refine ⟨rfl, rfl, rfl, rfl, rfl, rfl, rfl, rfl, rfl, rfl, rfl, rfl, rfl, rfl⟩

theorem test_decode_placeholder :
    decode [0x02] = .ok (.ill 0x02, []) ∧ decode [0xFF, 0x12, 0x34] = .ok (.ill 0xFF, [0x12, 0x34]) ∧
    decode [0x9B, 0x00] = .ok (.ill 0x9B, [0x00]) := by
  refine ⟨rfl, rfl, rfl⟩

theorem test_decode_refuses_short_words :
    decode [] = .error .noOpcode ∧ decode [0xA9] = .error (.truncated 0xA9) ∧
    decode [0x4C, 0x00] = .error (.truncated 0x4C) := by
  refine ⟨rfl, rfl, rfl⟩

theorem test_decode_table_words :
    decodeTableWord 8 0xA9 = some (.ldaImm 0x00) ∧ decodeTableWord 8 0x6C = some (.jmpInd 0x0000) ∧
    decodeTableWord 8 0x100 = some .brk := by
  refine ⟨rfl, rfl, rfl⟩

/-! ### Single steps, with the numbers of spec/95_test_vectors.md

The vectors place an instruction at an address and run it in one tick; `cost` is `cyc` after the tick plus the
clock that the tick itself counts (R162, R167). -/

/-- A machine at an instruction boundary: the given registers over the reset state, RAM with some bytes. -/
def cpuWith (a x y s p : Byte) (ram : List (Nat × Byte)) : State :=
  let r : State := ram.foldl (fun t c => t.setRam (t.ram.write c.1 c.2)) State.reset
  ((((((r.setA a).setX x).setY y).setS s).setP p).setPc 0x0600).setCyc 0

/-- One tick of the machine with the bytes of an instruction placed at its `PC`. -/
def runOne (bytes : List Byte) (s : State) : State :=
  match step (s.placeAtPc bytes) with
  | .next t => t
  | .fault _ => s
  | .refused _ => s

/-- A program bank with its reset, NMI and IRQ vectors at 0x8000, 0x8100 and 0x9000. -/
def vectors : Memory := [(0x3FFB, 0x81), (0x3FFD, 0x80), (0x3FFF, 0x90)]

/-- The machine with that program bank. -/
def withVectors (s : State) : State := s.setCart { s.cart with prg := vectors }

/-- `A`, `P` and the cost of the instruction that just ran. -/
def aPCost (t : State) : Byte × Byte × Nat := (t.cpu.a, t.cpu.p, t.cpu.cyc + 1)

/-- A RAM byte, `P` and the cost of the instruction that just ran. -/
def ramPCost (k : Nat) (t : State) : Byte × Byte × Nat := (t.ram.read k, t.cpu.p, t.cpu.cyc + 1)

/-- `PC` and the cost of the instruction that just ran. -/
def pcCost (t : State) : Word × Nat := (t.cpu.pc, t.cpu.cyc + 1)

/-- V40.1. -/
theorem test_lda_abs_ram_mirror :
    aPCost (runOne [0xAD, 0xFF, 0x1F] (cpuWith 0 0 0 0xFD 0x24 [(0x7FF, 0x99)])) =
      (0x99, 0xA4, 4) := by
  decide

/-- V40.2. -/
theorem test_lda_zpx_wraps_in_page :
    aPCost (runOne [0xB5, 0xFF] (cpuWith 0 0x02 0 0xFD 0x24 [(0x001, 0x42), (0x101, 0x13)])) =
      (0x42, 0x24, 4) := by
  decide

/-- V40.4. -/
theorem test_sta_abx_no_extra_cycle :
    ramPCost 0x310 (runOne [0x9D, 0xF0, 0x12] (cpuWith 0x5A 0x20 0 0xFD 0x24 [])) =
      (0x5A, 0x24, 5) := by
  decide

/-- V41.5. -/
theorem test_stx_zpy_wraps :
    ramPCost 0x10 (runOne [0x96, 0xF0] (cpuWith 0 0x44 0x20 0xFD 0x24 [])) =
      (0x44, 0x24, 4) := by
  decide

/-- V41.6. -/
theorem test_sty_zpx_wraps :
    ramPCost 0x10 (runOne [0x94, 0xF0] (cpuWith 0 0x20 0x45 0xFD 0x24 [])) =
      (0x45, 0x24, 4) := by
  decide

/-- V40.6. -/
theorem test_ldx_aby_page_cross :
    (fun t => (t.cpu.x, t.cpu.p, t.cpu.cyc + 1)) (runOne [0xBE, 0xFF, 0x00] (cpuWith 0 0 0x01 0xFD 0x24 [(0x100, 0x80)])) =
      (0x80, 0xA4, 5) := by
  decide

/-- R203. -/
theorem test_ldy_zpx :
    (fun t => (t.cpu.y, t.cpu.p, t.cpu.cyc + 1)) (runOne [0xB4, 0x10] (cpuWith 0 0x10 0 0xFD 0x24 [(0x20, 0x81)])) =
      (0x81, 0xA4, 4) := by
  decide

/-- V40.8. -/
theorem test_lda_izx_pointer_wraps :
    aPCost (runOne [0xA1, 0xFE] (cpuWith 0 0x01 0 0xFD 0x24 [(0xFF, 0x10), (0x00, 0x03), (0x310, 0x77)])) =
      (0x77, 0x24, 6) := by
  decide

/-- V40.9. -/
theorem test_lda_izy_page_cross :
    aPCost (runOne [0xB1, 0x86] (cpuWith 0 0 0x10 0xFD 0x24 [(0x86, 0xF8), (0x87, 0x02), (0x308, 0x66)])) =
      (0x66, 0x24, 6) := by
  decide

/-- V41.8. -/
theorem test_tax_zero :
    (fun t => (t.cpu.x, t.cpu.p)) (runOne [0xAA] (cpuWith 0 0x7F 0 0xFD 0x24 [])) =
      (0x00, 0x26) := by
  decide

/-- R208. -/
theorem test_tay :
    (fun t => (t.cpu.y, t.cpu.p)) (runOne [0xA8] (cpuWith 0x80 0 0 0xFD 0x24 [])) =
      (0x80, 0xA4) := by
  decide

/-- R209. -/
theorem test_txa :
    aPCost (runOne [0x8A] (cpuWith 0 0x80 0 0xFD 0x24 [])) =
      (0x80, 0xA4, 2) := by
  decide

/-- R210. -/
theorem test_tya :
    aPCost (runOne [0x98] (cpuWith 0x11 0 0x00 0xFD 0x24 [])) =
      (0x00, 0x26, 2) := by
  decide

/-- V41.9. -/
theorem test_tsx :
    (fun t => (t.cpu.x, t.cpu.p)) (runOne [0xBA] (cpuWith 0 0 0 0x80 0x24 [])) =
      (0x80, 0xA4) := by
  decide

/-- V41.10. -/
theorem test_txs_no_flags :
    (fun t => (t.cpu.s, t.cpu.p)) (runOne [0x9A] (cpuWith 0 0x00 0 0xFD 0x24 [])) =
      (0x00, 0x24) := by
  decide

/-- V42.1. -/
theorem test_adc_signed_overflow :
    aPCost (runOne [0x69, 0x50] (cpuWith 0x50 0 0 0xFD 0x24 [])) =
      (0xA0, 0xE4, 2) := by
  decide

/-- V42.7. -/
theorem test_adc_decimal_ignored :
    aPCost (runOne [0x69, 0x09] (cpuWith 0x09 0 0 0xFD 0x2C [])) =
      (0x12, 0x2C, 2) := by
  decide

/-- V42.8. -/
theorem test_sbc_overflow_borrow :
    aPCost (runOne [0xE9, 0xB0] (cpuWith 0x50 0 0 0xFD 0x25 [])) =
      (0xA0, 0xE4, 2) := by
  decide

/-- V42.9. -/
theorem test_sbc_overflow_no_borrow :
    aPCost (runOne [0xE9, 0x01] (cpuWith 0x80 0 0 0xFD 0x25 [])) =
      (0x7F, 0x65, 2) := by
  decide

/-- V42.13. -/
theorem test_and_zero :
    aPCost (runOne [0x29, 0x0F] (cpuWith 0xF0 0 0 0xFD 0x24 [])) =
      (0x00, 0x26, 2) := by
  decide

/-- V42.14. -/
theorem test_ora_negative :
    aPCost (runOne [0x09, 0x80] (cpuWith 0x01 0 0 0xFD 0x24 [])) =
      (0x81, 0xA4, 2) := by
  decide

/-- V42.15. -/
theorem test_eor_zero :
    aPCost (runOne [0x49, 0xFF] (cpuWith 0xFF 0 0 0xFD 0x24 [])) =
      (0x00, 0x26, 2) := by
  decide

/-- V42.16. -/
theorem test_bit_flags_from_memory :
    aPCost (runOne [0x24, 0x10] (cpuWith 0x01 0 0 0xFD 0x24 [(0x10, 0xC0)])) =
      (0x01, 0xE6, 3) := by
  decide

/-- V42.18. -/
theorem test_bit_clears_n_v :
    aPCost (runOne [0x2C, 0x00, 0x03] (cpuWith 0 0 0 0xFD 0xE4 [])) =
      (0x00, 0x26, 4) := by
  decide

/-- V42.20. -/
theorem test_cmp_unsigned :
    aPCost (runOne [0xC9, 0x01] (cpuWith 0x80 0 0 0xFD 0x24 [])) =
      (0x80, 0x25, 2) := by
  decide

/-- V42.19. -/
theorem test_cmp_less :
    aPCost (runOne [0xC9, 0x20] (cpuWith 0x10 0 0 0xFD 0x24 [])) =
      (0x10, 0xA4, 2) := by
  decide

/-- V42.21. -/
theorem test_cpx_equal :
    (fun t => (t.cpu.x, t.cpu.p)) (runOne [0xE0, 0x10] (cpuWith 0 0x10 0 0xFD 0x24 [])) =
      (0x10, 0x27) := by
  decide

/-- V42.22. -/
theorem test_cpy_borrow :
    (fun t => (t.cpu.y, t.cpu.p)) (runOne [0xC0, 0xFF] (cpuWith 0 0 0 0xFD 0x24 [])) =
      (0x00, 0x24) := by
  decide

/-- V42.23. -/
theorem test_inc_wraps :
    ramPCost 0x10 (runOne [0xE6, 0x10] (cpuWith 0 0 0 0xFD 0x24 [(0x10, 0xFF)])) =
      (0x00, 0x26, 5) := by
  decide

/-- V42.25. -/
theorem test_inc_abx_no_v :
    ramPCost 0x300 (runOne [0xFE, 0xFF, 0x02] (cpuWith 0 0x01 0 0xFD 0x24 [(0x300, 0x7F)])) =
      (0x80, 0xA4, 7) := by
  decide

/-- V42.24. -/
theorem test_dec_wraps :
    ramPCost 0x10 (runOne [0xC6, 0x10] (cpuWith 0 0 0 0xFD 0x24 [])) =
      (0xFF, 0xA4, 5) := by
  decide

/-- V42.26. -/
theorem test_inx_wraps :
    (fun t => (t.cpu.x, t.cpu.p)) (runOne [0xE8] (cpuWith 0 0xFF 0 0xFD 0x24 [])) =
      (0x00, 0x26) := by
  decide

/-- R243. -/
theorem test_iny :
    (fun t => (t.cpu.y, t.cpu.p)) (runOne [0xC8] (cpuWith 0 0 0x7F 0xFD 0x24 [])) =
      (0x80, 0xA4) := by
  decide

/-- R244. -/
theorem test_dex :
    (fun t => (t.cpu.x, t.cpu.p)) (runOne [0xCA] (cpuWith 0 0x01 0 0xFD 0x24 [])) =
      (0x00, 0x26) := by
  decide

/-- V42.27. -/
theorem test_dey_wraps :
    (fun t => (t.cpu.y, t.cpu.p)) (runOne [0x88] (cpuWith 0 0 0x00 0xFD 0x24 [])) =
      (0xFF, 0xA4) := by
  decide

/-- V43.1. -/
theorem test_asl_accumulator :
    aPCost (runOne [0x0A] (cpuWith 0x41 0 0 0xFD 0x24 [])) =
      (0x82, 0xA4, 2) := by
  decide

/-- V43.2. -/
theorem test_asl_abx :
    ramPCost 0x310 (runOne [0x1E, 0xF0, 0x02] (cpuWith 0 0x20 0 0xFD 0x24 [(0x310, 0x80)])) =
      (0x00, 0x27, 7) := by
  decide

/-- V43.3. -/
theorem test_lsr_accumulator :
    aPCost (runOne [0x4A] (cpuWith 0x01 0 0 0xFD 0x24 [])) =
      (0x00, 0x27, 2) := by
  decide

/-- V43.4. -/
theorem test_lsr_zp0 :
    ramPCost 0x10 (runOne [0x46, 0x10] (cpuWith 0 0 0 0xFD 0x24 [(0x10, 0x03)])) =
      (0x01, 0x25, 5) := by
  decide

/-- V43.5. -/
theorem test_rol_accumulator :
    aPCost (runOne [0x2A] (cpuWith 0x80 0 0 0xFD 0x25 [])) =
      (0x01, 0x25, 2) := by
  decide

/-- V43.6. -/
theorem test_rol_abs :
    ramPCost 0x300 (runOne [0x2E, 0x00, 0x03] (cpuWith 0 0 0 0xFD 0x25 [(0x300, 0x40)])) =
      (0x81, 0xA4, 6) := by
  decide

/-- V43.7. -/
theorem test_ror_accumulator :
    aPCost (runOne [0x6A] (cpuWith 0x01 0 0 0xFD 0x25 [])) =
      (0x80, 0xA5, 2) := by
  decide

/-- V43.8. -/
theorem test_ror_zpx :
    ramPCost 0x20 (runOne [0x76, 0x10] (cpuWith 0 0x10 0 0xFD 0x24 [(0x20, 0x02)])) =
      (0x01, 0x24, 6) := by
  decide

/-- V44.1. -/
theorem test_bne_taken_back :
    pcCost (runOne [0xD0, 0xFB] (((cpuWith 0 0 0 0xFD 0x24 [])).setPc 0x0610)) =
      (0x060D, 3) := by
  decide

/-- V44.2. -/
theorem test_bne_not_taken :
    pcCost (runOne [0xD0, 0xFB] (((cpuWith 0 0 0 0xFD 0x26 [])).setPc 0x0610)) =
      (0x0612, 2) := by
  decide

/-- V44.3. -/
theorem test_beq_page_cross :
    pcCost (runOne [0xF0, 0x7F] (((cpuWith 0 0 0 0xFD 0x26 [])).setPc 0x06F0)) =
      (0x0771, 4) := by
  decide

/-- V44.4. -/
theorem test_bcc_page_cross :
    pcCost (runOne [0x90, 0x02] (((cpuWith 0 0 0 0xFD 0x24 [])).setPc 0x06FD)) =
      (0x0701, 4) := by
  decide

/-- V44.5. -/
theorem test_bvc_backwards :
    pcCost (runOne [0x50, 0x80] (((cpuWith 0 0 0 0xFD 0x24 [])).setPc 0x0600)) =
      (0x0582, 4) := by
  decide

/-- V44.6. -/
theorem test_bmi_taken :
    pcCost (runOne [0x30, 0x7F] (((cpuWith 0 0 0 0xFD 0xA4 [])).setPc 0x0600)) =
      (0x0681, 3) := by
  decide

/-- V44.7. -/
theorem test_bcs_not_taken :
    pcCost (runOne [0xB0, 0x05] (((cpuWith 0 0 0 0xFD 0x24 [])).setPc 0x0600)) =
      (0x0602, 2) := by
  decide

/-- R285. -/
theorem test_bpl_taken :
    pcCost (runOne [0x10, 0x05] (((cpuWith 0 0 0 0xFD 0x24 [])).setPc 0x0600)) =
      (0x0607, 3) := by
  decide

/-- R288. -/
theorem test_bvs_taken :
    pcCost (runOne [0x70, 0x05] (((cpuWith 0 0 0 0xFD 0x64 [])).setPc 0x0600)) =
      (0x0607, 3) := by
  decide

/-- V44.8. -/
theorem test_jmp_abs :
    pcCost (runOne [0x4C, 0x34, 0x12] (cpuWith 0 0 0 0xFD 0x24 [])) =
      (0x1234, 3) := by
  decide

/-- V44.9. -/
theorem test_jmp_ind_page_bug :
    pcCost (runOne [0x6C, 0xFF, 0x02] (cpuWith 0 0 0 0xFD 0x24 [(0x2FF, 0x80), (0x200, 0x50), (0x300, 0x40)])) =
      (0x5080, 5) := by
  decide

/-- V44.10. -/
theorem test_jsr_pushes_last_byte_address :
    (fun t => (t.cpu.pc, t.cpu.s, t.ram.read 0x1FD, t.ram.read 0x1FC, t.cpu.cyc + 1)) (runOne [0x20, 0x34, 0x12] (cpuWith 0 0 0 0xFD 0x24 [])) =
      (0x1234, 0xFB, 0x06, 0x02, 6) := by
  decide

/-- V44.11. -/
theorem test_rts_wraps :
    (fun t => (t.cpu.pc, t.cpu.s, t.cpu.cyc + 1)) (runOne [0x60] (cpuWith 0 0 0 0xFD 0x24 [(0x1FE, 0xFF), (0x1FF, 0xFF)])) =
      (0x0000, 0xFF, 6) := by
  decide

/-- V45.1. -/
theorem test_pha_stack_wraps :
    (fun t => (t.ram.read 0x100, t.cpu.s, t.cpu.cyc + 1)) (runOne [0x48] (cpuWith 0x33 0 0 0x00 0x24 [])) =
      (0x33, 0xFF, 3) := by
  decide

/-- V45.2. -/
theorem test_php_image :
    (fun t => (t.ram.read 0x1FD, t.cpu.s, t.cpu.p)) (runOne [0x08] (cpuWith 0 0 0 0xFD 0x24 [])) =
      (0x34, 0xFC, 0x24) := by
  decide

/-- V45.3. -/
theorem test_pla_zero :
    (fun t => (t.cpu.a, t.cpu.s, t.cpu.p)) (runOne [0x68] (cpuWith 0x55 0 0 0xFD 0x24 [])) =
      (0x00, 0xFE, 0x26) := by
  decide

/-- V45.4. -/
theorem test_plp_ignores_bit_4 :
    (fun t => (t.cpu.p, t.cpu.s)) (runOne [0x28] (cpuWith 0 0 0 0xFD 0x24 [(0x1FE, 0xFF)])) =
      (0xEF, 0xFE) := by
  decide

/-- V45.5. -/
theorem test_clc :
    (fun t => (t.cpu.p, t.cpu.cyc + 1)) (runOne [0x18] (cpuWith 0 0 0 0xFD 0xEF [])) =
      (0xEE, 2) := by
  decide

/-- V45.6. -/
theorem test_sec :
    (fun t => (t.cpu.p, t.cpu.cyc + 1)) (runOne [0x38] (cpuWith 0 0 0 0xFD 0x20 [])) =
      (0x21, 2) := by
  decide

/-- V45.7. -/
theorem test_cli :
    (fun t => (t.cpu.p, t.cpu.cyc + 1)) (runOne [0x58] (cpuWith 0 0 0 0xFD 0xEF [])) =
      (0xEB, 2) := by
  decide

/-- V45.8. -/
theorem test_sei :
    (fun t => (t.cpu.p, t.cpu.cyc + 1)) (runOne [0x78] (cpuWith 0 0 0 0xFD 0x20 [])) =
      (0x24, 2) := by
  decide

/-- V45.9. -/
theorem test_clv :
    (fun t => (t.cpu.p, t.cpu.cyc + 1)) (runOne [0xB8] (cpuWith 0 0 0 0xFD 0xEF [])) =
      (0xAF, 2) := by
  decide

/-- V45.10. -/
theorem test_cld :
    (fun t => (t.cpu.p, t.cpu.cyc + 1)) (runOne [0xD8] (cpuWith 0 0 0 0xFD 0xEF [])) =
      (0xE7, 2) := by
  decide

/-- V45.11. -/
theorem test_sed :
    (fun t => (t.cpu.p, t.cpu.cyc + 1)) (runOne [0xF8] (cpuWith 0 0 0 0xFD 0x20 [])) =
      (0x28, 2) := by
  decide

/-- V45.12. -/
theorem test_nop :
    pcCost (runOne [0xEA] (cpuWith 0 0 0 0xFD 0x24 [])) =
      (0x0601, 2) := by
  decide

/-- V40.13. -/
theorem test_placeholder_is_one_byte :
    pcCost (runOne [0xFF, 0x12, 0x34] (cpuWith 0 0 0 0xFD 0x24 [])) =
      (0x0601, 2) := by
  decide

/-- V45.13. -/
theorem test_brk_frame :
    (fun t => (t.cpu.pc, t.cpu.s, t.cpu.p, t.ram.read 0x1FD, t.ram.read 0x1FC, t.ram.read 0x1FB)) (runOne [0x00] (withVectors (cpuWith 0 0 0 0xFD 0x20 []))) =
      (0x9000, 0xFA, 0x24, 0x06, 0x02, 0x30) := by
  decide

/-- V45.14. -/
theorem test_rti_no_increment :
    (fun t => (t.cpu.p, t.cpu.pc, t.cpu.s, t.cpu.cyc + 1)) (runOne [0x40] (cpuWith 0 0 0 0xFA 0x24 [(0x1FB, 0xFF), (0x1FC, 0x34), (0x1FD, 0x12)])) =
      (0xEF, 0x1234, 0xFD, 6) := by
  decide

/-! ### The bus, DMA, the controllers, the mappers -/

/-- V20.1. -/
theorem test_ram_mirrors :
    ((State.reset.memWrite 0x0000 0x5A).memRead 0x0800).value = 0x5A ∧
    ((State.reset.memWrite 0x0000 0x5A).memRead 0x1800).value = 0x5A := by
  decide

/-- V20.3, V20.6. -/
theorem test_open_bus :
    ((State.reset.memWrite 0x0200 0x77).memRead 0x5000).value = 0x77 ∧
    ((State.reset.memWrite 0x0200 0x77).memRead 0x4014).value = 0x77 := by
  decide

/-- V20.5. -/
theorem test_rom_write_ignored :
    ((withVectors State.reset).memWrite 0x8000 0x12).cart = (withVectors State.reset).cart ∧
    ((withVectors State.reset).memWrite 0x8000 0x12).openBus = 0x12 := by
  decide

/-- V46.3: the first bits of 0x81. -/
theorem test_controller_bits :
    let s := (State.reset.setController0 0x81).memWrite 0x4016 0x00
    let t := (s.memRead 0x4016).state
    (s.memRead 0x4016).value = 1 ∧ (t.memRead 0x4016).value = 0 ∧ t.ctrlShift0 = 0x02 := by
  decide

/-- R350: a write to 0x4014 arms the controller. -/
theorem test_dma_trigger :
    (State.reset.memWrite 0x4014 0x02).dma =
      { enable := true, wait := true, page := 0x02, index := 0, data := 0 } := by
  decide

/-- R353: an even slot reads page and index. -/
theorem test_dma_read :
    (((State.reset.setRam [(0x205, 0x77)]).setDma
      { enable := true, wait := false, page := 0x02, index := 5, data := 0 }).dmaStep).dma.data = 0x77 := by
  decide

/-- V49.1: five writes 1, 0, 1, 0, 0 to 0xE000 select bank 5. -/
theorem test_mapper1_serial_load :
    let r : Mapper1 := { load := 0, count := 0, control := 0x1C, chrLo := 0, chrHi := 0, prg := 0, prgRam := [] }
    let q := ((((r.serialWrite 0xE000 1).serialWrite 0xE000 0).serialWrite 0xE000 1).serialWrite 0xE000 0)
    (q.serialWrite 0xE000 0).prg = 5 ∧ mapper1PrgOffset (q.serialWrite 0xE000 0) 8 0x8000 = 0x14000 ∧
    mapper1PrgOffset (q.serialWrite 0xE000 0) 8 0xC000 = 0x1C000 := by
  decide

/-- R91: with no write between them two reads of a write-only register agree, mirrors included. -/
theorem test_write_only_reads_agree :
    ((State.reset.memRead 0x2002).state.memRead 0x2001).value = (State.reset.memRead 0x2009).value := rfl

/-- V49.3. -/
theorem test_mapper_4_refused : Cartridge.construct 4 1 1 [] [] [] .horizontal = none := by decide

/-! ### The picture and audio units -/

/-- V47.1, V47.2. -/
theorem test_address_register :
    let s := State.reset.memWrite 0x2006 0x21
    let t := s.memWrite 0x2006 0x08
    s.ppu.tram = 0x2100 ∧ s.ppu.vram = 0 ∧ s.ppu.addrLatch = true ∧ t.ppu.vram = 0x2108 ∧
    t.ppu.addrLatch = false := by
  decide

/-- V47.9. -/
theorem test_scroll_register :
    let p := { State.reset.ppu with tram := 0x3F14 }
    (p.scrollWrite 0x7D).fineX = 5 ∧ (p.scrollWrite 0x7D).tram = 0x3F0F ∧
    ((p.scrollWrite 0x7D).scrollWrite 0x5E).tram = 0x6D6F := by
  decide

/-- V47.7. -/
theorem test_palette_alias :
    let s := (State.reset.setPpu { State.reset.ppu with vram := 0x3F10 }).memWrite 0x2007 0x2C
    s.ppu.pal.read 0 = 0x2C ∧ s.ppuRead 0x3F00 = 0x2C := by
  decide

/-- V47.13. -/
theorem test_oam_data_wraps :
    let p := { State.reset.ppu with oamAddr := 0xFF }
    ((p.oamDataWrite 0xA2).oamDataWrite 0xA3).oam.read 0 = 0xA3 ∧
    ((p.oamDataWrite 0xA2).oamDataWrite 0xA3).oamAddr = 0x01 := by
  decide

/-- V47.11: a read of register 7 is one read late. -/
theorem test_data_read_is_delayed :
    let s := State.reset.setPpu { State.reset.ppu with vram := 0x2400, nt0 := [(0, 0x77)] }
    (s.memRead 0x2007).value = 0x00 ∧ ((s.memRead 0x2007).state.memRead 0x2007).value = 0x77 ∧
    (s.memRead 0x2007).state.ppu.dataBuffer = 0x77 ∧ (s.memRead 0x2007).state.ppu.vram = 0x2401 := by
  decide

/-- V60.3: the enable's 0 to 1 step while VerticalBlank is set requests an NMI. -/
theorem test_nmi_edge :
    ((State.reset.setPpu { State.reset.ppu with vblank := true }).memWrite 0x2000 0x80).ppu.nmiPending = true ∧
    (State.reset.memWrite 0x2000 0x80).ppu.nmiPending = false := by
  decide

/-- R396: the counters wrap at the end of a frame. -/
theorem test_frame_wraps :
    let s := (State.reset.setPpu { State.reset.ppu with scanline := 260, cycle := 340 }).ppuClock
    s.ppu.scanline = -1 ∧ s.ppu.cycle = 0 ∧ s.ppu.frameComplete = true := by
  decide

/-- V48.3, V48.4. -/
theorem test_pulse_length_load :
    ({ Pulse.reset with enable := true }.regWrite 3 0x18).length = 2 ∧ (Pulse.reset.regWrite 3 0x18).length = 0 ∧
    ({ Pulse.reset with enable := true }.regWrite 3 0x18).env.start = true := by
  decide

/-- V48.7, V48.9, V48.10. -/
theorem test_sweep_target :
    let p := { Pulse.reset with timerReload := 0x100, sweep := { Pulse.reset.sweep with shift := 2, negate := true } }
    p.sweepTarget .one = 0x0BF ∧ p.sweepTarget .two = 0x0C0 ∧
    { Pulse.reset with timerReload := 0x400 }.sweepMute .one = true ∧
    { Pulse.reset with timerReload := 0x007 }.sweepMute .two = true := by
  decide

/-- V48.11, V48.12. -/
theorem test_envelope :
    let e := { Envelope.reset with vol := 2, start := true }.tick
    (e.decay, e.div) = (15, 2) ∧ (e.tick.tick.tick.decay, e.tick.tick.tick.div) = (14, 2) ∧
    Envelope.reset.tick.decay = 0 ∧ { Envelope.reset with loop := true }.tick.decay = 15 := by
  decide

/-- V48.13. -/
theorem test_pulse_timer :
    let p := { Pulse.reset with timerReload := 2, seqPos := 7 }.timerTick
    (p.timer, p.seqPos) = (2, 0) ∧ (p.timerTick.timer, p.timerTick.seqPos) = (1, 0) := by
  decide

/-- R490: the noise register shifts right and feeds bit 14. -/
theorem test_noise_shift :
    Apu.reset.noise.timerTick.lfsr = 0x4000 ∧ Apu.reset.noise.timerTick.timer = 1 := by
  decide

/-! ### How the host places an instruction, and reset -/

/-- R201: the word 0xA9, zeros above, runs as `LDA #0` in the very next step. -/
theorem test_withFetchWord_runs_the_word :
    let s := State.reset.withFetchWord 8 0xA9
    let t := match step s with
      | .next t => t
      | .fault _ => s
      | .refused _ => s
    t.cpu.pc = 0x0002 ∧ t.cpu.a = 0x00 ∧ t.cpu.p = 0x26 ∧ t.cpu.cyc = 1 ∧ t.clock = s.clock + 1 := by
  decide

/-- R600: the state after reset is what a reset makes of it. -/
theorem test_reset_is_a_fixed_point : hostReset State.reset = State.reset := by decide

/-! ### Witnesses: for every obligation with hypotheses, inputs that meet them together -/

/-- An instruction boundary with `LDA #0x10` at `PC`. -/
def atLoad : State := (cpuWith 0x01 0x02 0x03 0xFD 0x24 []).placeAtPc [0xA9, 0x10]

/-- Mapper1 registers after reset. -/
def mapper1Regs : Mapper1 :=
  { load := 0, count := 0, control := 0x1C, chrLo := 0, chrHi := 0, prg := 0, prgRam := [] }

/-- A machine with Mapper1 in it. -/
def withMapper1 : State := State.reset.setCart { State.reset.cart with mapper := .mapper1 mapper1Regs }

/-- A machine with CHR ROM. -/
def withChrRom : State := State.reset.setCart { State.reset.cart with pattern := .rom 1 [] }

/-- A machine whose picture unit is at a scanline and cycle. -/
def ppuAt (scanline : Int) (cycle : Nat) : State :=
  State.reset.setPpu { State.reset.ppu with scanline := scanline, cycle := cycle }

theorem test_witness_DecodeOfEncode :
    (Instr.ldaAbs 0xFFFF).wellFormed = true ∧ (Instr.ill 0x02).wellFormed = true := by decide

theorem test_witness_EncodeOfDecode : decode [0xAD, 0x34, 0x12] = .ok (.ldaAbs 0x1234, []) := rfl

theorem test_witness_OpcodeTable :
    (Instr.brk).mnemonic ≠ .ill ∧ (Mode.imp, (0x00 : Byte), 7) ∈ documentedRows .brk := by decide

theorem test_witness_StepRunsDecodedInstruction :
    (atLoad.clock % 3 = 0 ∧ atLoad.dma.enable = false ∧ atLoad.cpu.cyc = 0 ∧
      atLoad.peek atLoad.cpu.pc = some 0xA9 ∧ atLoad.peek (atLoad.cpu.pc + 1) = some 0x10 ∧
      decode [0xA9, 0x10] = .ok (.ldaImm 0x10, [])) ∧
    (State.reset.setClock 1).clock % 3 ≠ 0 ∧
    (State.reset.memWrite 0x4014 0x02).clock % 3 = 0 ∧ (State.reset.memWrite 0x4014 0x02).dma.enable = true ∧
    State.reset.clock % 3 = 0 ∧ State.reset.dma.enable = false ∧ State.reset.cpu.cyc ≠ 0 ∧
    ∃ t, step State.reset = .next t := by
  refine ⟨⟨rfl, rfl, rfl, by decide, by decide, rfl⟩, by decide, by decide, by decide, by decide, by decide,
    by decide, _, rfl⟩

theorem test_witness_LoadResults :
    (Instr.ldaIzy 0xFF).mnemonic ∈ [Mnemonic.lda, .ldx, .ldy] ∧
    (Instr.ldxAby 0).mnemonic ∈ [Mnemonic.lda, .ldx, .ldy] ∧
    (Instr.ldyImm 0).mnemonic ∈ [Mnemonic.lda, .ldx, .ldy] := by decide

theorem test_witness_StoreResults :
    (Instr.staAbs 0x2007).mnemonic ∈ [Mnemonic.sta, .stx, .sty] ∧
    (Instr.stxZpy 0xFF).mnemonic ∈ [Mnemonic.sta, .stx, .sty] ∧
    (Instr.styZp0 0).mnemonic ∈ [Mnemonic.sta, .stx, .sty] := by decide

theorem test_witness_AdcResult : (Instr.adcAbx 0xFFFF).mnemonic = .adc := rfl

theorem test_witness_SbcResult : (Instr.sbcImm 0x00).mnemonic = .sbc := rfl

theorem test_witness_LogicResults :
    (Instr.andImm 0).mnemonic ∈ [Mnemonic.and, .ora, .eor] ∧
    (Instr.oraZp0 0).mnemonic ∈ [Mnemonic.and, .ora, .eor] ∧
    (Instr.eorIzx 0).mnemonic ∈ [Mnemonic.and, .ora, .eor] := by decide

theorem test_witness_BitResult : (Instr.bitAbs 0x2002).mnemonic = .bit := rfl

theorem test_witness_CompareResults :
    (Instr.cmpImm 0).mnemonic ∈ [Mnemonic.cmp, .cpx, .cpy] ∧
    atLoad.cpu.a = (if (Instr.cmpImm 0).mnemonic = .cmp then atLoad.cpu.a
      else if (Instr.cmpImm 0).mnemonic = .cpx then atLoad.cpu.x else atLoad.cpu.y) ∧
    (Instr.cpyImm 0).mnemonic ∈ [Mnemonic.cmp, .cpx, .cpy] ∧
    atLoad.cpu.y = (if (Instr.cpyImm 0).mnemonic = .cmp then atLoad.cpu.a
      else if (Instr.cpyImm 0).mnemonic = .cpx then atLoad.cpu.x else atLoad.cpu.y) := by decide

theorem test_witness_IncrementResults :
    (Instr.incAbx 0xFFFF).mnemonic ∈ [Mnemonic.inc, .dec] ∧ (Instr.decZp0 0).mnemonic ∈ [Mnemonic.inc, .dec] := by
  decide

theorem test_witness_ShiftResults :
    (Instr.aslImp).mnemonic ∈ [Mnemonic.asl, .lsr, .rol, .ror] ∧
    (Instr.rorAbx 0x4016).mnemonic ∈ [Mnemonic.asl, .lsr, .rol, .ror] := by decide

theorem test_witness_BranchResults :
    (Instr.bne 0x80, !atLoad.flag .z) ∈ [(Instr.bcc 0x80, !atLoad.flag .c), (.bcs 0x80, atLoad.flag .c),
      (.beq 0x80, atLoad.flag .z), (.bne 0x80, !atLoad.flag .z), (.bpl 0x80, !atLoad.flag .n),
      (.bmi 0x80, atLoad.flag .n), (.bvc 0x80, !atLoad.flag .v), (.bvs 0x80, atLoad.flag .v)] := by decide

theorem test_witness_JumpResults :
    (0x3000 : Word).toNat =
      (if (0x30FF : Word).toNat % 256 = 255 then (0x30FF : Word).toNat - 255 else (0x30FF : Word).toNat + 1) ∧
    (0x3001 : Word).toNat =
      (if (0x3000 : Word).toNat % 256 = 255 then (0x3000 : Word).toNat - 255 else (0x3000 : Word).toNat + 1) ∧
    ∃ lo hi, lo = atLoad.memRead 0x30FF ∧ hi = lo.state.memRead 0x3000 := by
  refine ⟨by decide, by decide, _, _, rfl, rfl⟩

theorem test_witness_CallAndReturnResults :
    atLoad.ram.wf 2048 = true ∧
    ∃ t u, exec (.jsr 0x1234) atLoad = .next t ∧ u = t.setA 0x77 ∧ u.ram = t.ram ∧ u.cpu.s = t.cpu.s := by
  refine ⟨by decide, _, _, rfl, rfl, rfl, rfl⟩

theorem test_witness_StackResults :
    (Instr.pha, atLoad.cpu.a) ∈ [(Instr.pha, atLoad.cpu.a), (.php, atLoad.cpu.p ||| 0x30)] ∧
    (Instr.php, atLoad.cpu.p ||| 0x30) ∈ [(Instr.pha, atLoad.cpu.a), (.php, atLoad.cpu.p ||| 0x30)] ∧
    (0x00 : Byte) = atLoad.ram.read (256 + (atLoad.cpu.s + 1).toNat) := by decide

theorem test_witness_FlagInstructionResults :
    (Instr.sed, Flag.d, true) ∈ [(Instr.clc, Flag.c, false), (.sec, .c, true), (.cli, .i, false), (.sei, .i, true),
      (.clv, .v, false), (.cld, .d, false), (.sed, .d, true)] := by decide

theorem test_witness_RegisterWriters :
    (∃ t, exec .plp atLoad = .next t) ∧ atLoad.statusWf = true ∧
    (Instr.staZp0 0).mnemonic ∉ [Mnemonic.lda, .pla, .txa, .tya, .adc, .sbc, .and, .ora, .eor] ∧
    ¬((Instr.aslZp0 0).mnemonic ∈ [Mnemonic.asl, .lsr, .rol, .ror] ∧ (Instr.aslZp0 0).mode = .imp) ∧
    (Instr.plp).mnemonic ∉ [Mnemonic.ldx, .tax, .tsx, .inx, .dex] ∧
    (Instr.plp).mnemonic ∉ [Mnemonic.ldy, .tay, .iny, .dey] ∧
    (Instr.nop).mnemonic ∉ [Mnemonic.txs, .jsr, .rts, .pha, .php, .pla, .plp, .brk, .rti] ∧
    (Instr.plp).mnemonic ∉ [Mnemonic.bcc, .bcs, .beq, .bne, .bpl, .bmi, .bvc, .bvs, .jmp, .jsr, .rts, .brk,
      .rti] := by
  refine ⟨⟨_, rfl⟩, by decide, by decide, by decide, by decide, by decide, by decide, by decide⟩

theorem exec_staAbs_next : ∃ t, exec (.staAbs 0x1FFF) atLoad = .next t := ⟨_, rfl⟩

theorem test_witness_MemoryFrame :
    (∃ t, exec (.staAbs 0x1FFF) atLoad = .next t) ∧ atLoad.storedAt .nop = [] ∧
    (∀ a ∈ atLoad.storedAt (.staAbs 0x1FFF), ¬SameCell a 0x07FE) ∧
    (∀ a ∈ atLoad.storedAt (.staAbs 0x1FFF), a < 0x8000) ∧
    (∀ a ∈ atLoad.storedAt (.staAbs 0x1FFF), a ≤ 0x1FFF → ramIndex a ≠ 0x7FE) ∧
    ∀ a ∈ atLoad.storedAt (.staAbs 0x1FFF), ¬(0x2000 ≤ a ∧ a ≤ 0x3FFF) := by
  have h : atLoad.storedAt (.staAbs 0x1FFF) = [0x1FFF] := rfl
  rw [h]
  refine ⟨exec_staAbs_next, rfl, ?_, ?_, ?_, ?_⟩ <;> intro a ha <;> rw [List.mem_singleton] at ha <;> subst ha
  · simp only [SameCell]
    decide
  · decide
  · decide
  · decide

theorem test_witness_RamMirrors :
    State.reset.ram.wf 2048 = true ∧ (0x0000 : Word) ≤ 0x1FFF ∧ (0x1FFF : Word) ≤ 0x1FFF ∧
    (0x0000 : Word).toNat % 0x800 = (0x1800 : Word).toNat % 0x800 ∧ 5 ≠ (0x0000 : Word).toNat % 0x800 := by decide

theorem test_witness_OpenBus :
    (State.reset.memWrite 0x6000 0x77).cart.mapper = .mapper0 ∧ (0x4018 : Word) ≤ 0x4018 ∧
    (0x5FFF : Word) ≤ 0x5FFF ∧ (0x6000 : Word) ≤ 0x6000 ∧ (0x7FFF : Word) ≤ 0x7FFF := by decide

theorem test_witness_ReadSideEffects :
    ¬((0x2000 : Word) ≤ 0x3FFE ∧ (0x3FFE : Word) ≤ 0x3FFF ∧
      ((0x3FFE : Word).toNat % 8 = 2 ∨ (0x3FFE : Word).toNat % 8 = 7)) ∧
    ¬((0x2000 : Word) ≤ 0x4018 ∧ (0x4018 : Word) ≤ 0x3FFF ∧
      ((0x4018 : Word).toNat % 8 = 2 ∨ (0x4018 : Word).toNat % 8 = 7)) ∧
    (0x4018 : Word) ≠ 0x4016 ∧ (0x4018 : Word) ≠ 0x4017 ∧ (0x4018 : Word) ≠ 0x4015 ∧
    ¬((0x4000 : Word) ≤ 0x4018 ∧ (0x4018 : Word) ≤ 0x4013) ∧
    ¬((0x4000 : Word) ≤ 0x3FFE ∧ (0x3FFE : Word) ≤ 0x4013) ∧
    (0x4000 : Word) ≤ 0x4013 ∧ (0x4013 : Word) ≤ 0x4013 := by decide

theorem test_witness_InterruptEntry :
    ((0xFFFA : Word) = 0xFFFA ∨ (0xFFFA : Word) = 0xFFFE) ∧
    ((0xFFFE : Word) = 0xFFFA ∨ (0xFFFE : Word) = 0xFFFE) := by decide

theorem test_witness_Arbiter :
    (State.reset.setPpu { State.reset.ppu with nmiPending := true }).ppu.nmiPending = true ∧
    (let s := (State.reset.setCart { State.reset.cart with irqState := true }).setP 0x20
     s.ppu.nmiPending = false ∧ s.cart.irqState = true ∧ s.flag .i = false) ∧
    (let s := State.reset.setCart { State.reset.cart with irqState := true }
     s.ppu.nmiPending = false ∧ s.cart.irqState = true ∧ s.flag .i = true) ∧
    State.reset.ppu.nmiPending = false ∧ State.reset.cart.irqState = false := by decide

theorem test_witness_InterruptThenReturn :
    atLoad.ram.wf 2048 = true ∧ atLoad.statusWf = true ∧
    (∃ u, u = (atLoad.enterInterrupt 0xFFFA 8).setX 0x55 ∧ u.ram = (atLoad.enterInterrupt 0xFFFA 8).ram ∧
      u.cpu.s = (atLoad.enterInterrupt 0xFFFA 8).cpu.s) ∧
    ∃ t u, exec .brk atLoad = .next t ∧ u = t.setX 0x55 ∧ u.ram = t.ram ∧ u.cpu.s = t.cpu.s := by
  refine ⟨by decide, by decide, ⟨_, rfl, rfl, rfl⟩, _, _, rfl, rfl, rfl, rfl⟩

theorem test_witness_DmaSubSteps :
    (State.reset.memWrite 0x4014 0x02).dma.wait = true ∧
    (let s := State.reset.setDma { enable := true, wait := false, page := 0xFF, index := 0xFF, data := 0x11 }
     s.dma.wait = false ∧ s.clock % 2 = 0 ∧
     (0xFFFF : Word).toNat = s.dma.page.toNat * 256 + s.dma.index.toNat ∧ (s.setClock 3).clock % 2 = 1) := by
  decide

theorem test_witness_DmaDuration :
    (let s := (State.reset.memWrite 0x4014 0x02).setClock 1
     s.clock = 0 + 1 ∧ 0 % 3 = 0 ∧ s.dma.enable = true ∧ s.dma.wait = true ∧ s.dma.index = 0) ∧
    (let s := (State.reset.memWrite 0x4014 0x02).setClock 4
     s.clock = 3 + 1 ∧ 3 % 3 = 0 ∧ 3 % 2 ≠ 0 ∧ s.dma.enable = true ∧ s.dma.wait = true ∧ s.dma.index = 0) ∧
    (let s := State.reset.memWrite 0x4014 0x02
     s.deviceClock.ppu.nmiPending = false ∧ s.cart.irqState = false ∧ s.flag .i = true) ∧
    ∃ t, step (State.reset.memWrite 0x4014 0x02) = .next t := by
  refine ⟨by decide, by decide, by decide, _, rfl⟩

theorem test_witness_DmaCopiesPage :
    let s := State.reset.setDma { enable := true, wait := false, page := 0x1F, index := 0, data := 0 }
    s.ppu.oam.wf 256 = true ∧ s.clock % 2 = 0 ∧ s.dma.enable = true ∧ s.dma.wait = false ∧ s.dma.index = 0 ∧
    s.dma.page.toNat < 0x20 := by
  decide

theorem test_witness_PpuCounters :
    -1 ≤ (ppuAt (-1) 0).ppu.scanline ∧ (ppuAt (-1) 0).ppu.scanline ≤ 260 ∧ (ppuAt (-1) 0).ppu.cycle ≤ 340 ∧
    -1 ≤ (ppuAt 260 340).ppu.scanline ∧ (ppuAt 260 340).ppu.scanline ≤ 260 ∧
    (ppuAt 260 340).ppu.cycle ≤ 340 := by
  decide

theorem test_witness_VerticalBlank :
    (ppuAt 241 1).ppu.scanline = 241 ∧ (ppuAt 241 1).ppu.cycle = 1 ∧ (ppuAt (-1) 1).ppu.scanline = -1 ∧
    ¬((ppuAt 241 2).ppu.scanline = 241 ∧ (ppuAt 241 2).ppu.cycle = 1) ∧
    ¬((ppuAt 241 2).ppu.scanline = -1 ∧ (ppuAt 241 2).ppu.cycle = 1) ∧
    (let s := ((ppuAt 241 1).memWrite 0x2000 0x80).setClock 82183
     s.ppu.scanline = 241 ∧ s.ppu.cycle = 1 ∧ s.ppu.control.getLsbD 7 = true ∧ s.clock % 3 ≠ 0) := by
  decide

theorem test_witness_ScrollUpdates :
    { State.reset.ppu with mask := 0x10 }.rendering = true ∧ State.reset.ppu.rendering = false := by decide

/-- The addresses of the four fetches with every field of `vram` at its largest value. -/
theorem test_witness_BackgroundPipeline :
    let s := (ppuAt 239 337).setPpu { (ppuAt 239 337).ppu with vram := 0x7FFF, control := 0x10, bgNextId := 0xFF }
    (0x2FFF : PpuAddr).toNat = 0x2000 + s.ppu.vram.toNat % 4096 ∧
    (0x2FFF : PpuAddr).toNat = 0x23C0 + 2048 * (ntY s.ppu.vram).toNat + 1024 * (ntX s.ppu.vram).toNat +
      8 * ((coarseY s.ppu.vram).toNat / 4) + (coarseX s.ppu.vram).toNat / 4 ∧
    (0x1FF7 : PpuAddr).toNat = 4096 * (s.ppu.control.getLsbD 4).toNat + 16 * s.ppu.bgNextId.toNat +
      (fineY s.ppu.vram).toNat ∧
    fetchPhase s.ppu.scanline s.ppu.cycle = some 0 ∧
    [fetchPhase 0 2, fetchPhase (-1) 257, fetchPhase 0 321, fetchPhase 239 8, fetchPhase 0 3] =
      [some 1, some 0, some 0, some 7, some 2] ∧
    [fetchPhase 0 1, fetchPhase 0 258, fetchPhase 0 320, fetchPhase 0 338, fetchPhase 240 2] =
      [none, none, none, none, none] := by
  decide

theorem test_witness_PixelOutput :
    State.reset.ppu.frame.wf 61440 = true ∧
    (0x3F00 : PpuAddr).toNat = 0x3F00 + 8 * (State.reset.ppu.mask.getLsbD 3 &&
      State.reset.ppu.shAttHi.getLsbD (15 - State.reset.ppu.fineX.toNat)).toNat + 4 * 0 + 2 * 0 + 0 ∧
    (0x3F0F : PpuAddr).toNat = 0x3F00 + 8 * 1 + 4 * 1 + 2 * 1 + 1 ∧
    (∀ s ∈ [ppuAt 0 1, ppuAt 239 256], 0 ≤ s.ppu.scanline ∧ s.ppu.scanline ≤ 239 ∧ 1 ≤ s.ppu.cycle ∧
      s.ppu.cycle ≤ 256) ∧
    ¬(0 ≤ (ppuAt 240 1).ppu.scanline ∧ (ppuAt 240 1).ppu.scanline ≤ 239 ∧ 1 ≤ (ppuAt 240 1).ppu.cycle ∧
      (ppuAt 240 1).ppu.cycle ≤ 256) := by
  decide

theorem test_witness_PictureRegisterWrites :
    (0x2000 : Word) ≤ 0x2000 ∧ (0x2000 : Word) ≤ 0x3FFF ∧ (0x2000 : Word) ≤ 0x3FFE ∧ (0x3FFE : Word) ≤ 0x3FFF ∧
    (0x2000 : Word).toNat % 8 = 0 ∧ (0x2001 : Word).toNat % 8 = 1 ∧ (0x3FFA : Word).toNat % 8 = 2 ∧
    (0x2003 : Word).toNat % 8 = 3 ∧ (0x3FFC : Word).toNat % 8 = 4 ∧ (0x2005 : Word).toNat % 8 = 5 ∧
    (0x3FFE : Word).toNat % 8 = 6 ∧
    State.reset.ppu.addrLatch = false ∧ (State.reset.memWrite 0x2005 0).ppu.addrLatch = true := by decide

theorem test_witness_StatusAndDataReads :
    (0x3FFF : PpuAddr).toNat =
      (State.reset.setPpu { State.reset.ppu with vram := 0x7FFF }).ppu.vram.toNat % 0x4000 ∧
    (0x3EFF : PpuAddr).toNat =
      (State.reset.setPpu { State.reset.ppu with vram := 0x3EFF }).ppu.vram.toNat % 0x4000 ∧
    (0x2000 : Word) ≤ 0x2002 ∧ (0x2002 : Word) ≤ 0x3FFF ∧ (0x2002 : Word).toNat % 8 = 2 ∧
    (0x2000 : Word) ≤ 0x3FFF ∧ (0x3FFF : Word) ≤ 0x3FFF ∧ (0x3FFF : Word).toNat % 8 = 7 := by decide

theorem test_witness_PaletteAliases :
    State.reset.ppu.pal.wf 32 = true ∧ (0x3F00 : PpuAddr) ≤ 0x3F10 ∧ (0x3F00 : PpuAddr) ≤ 0x3F00 := by decide

theorem test_witness_NametableMirroring :
    State.reset.memoriesWf = true ∧ (0x2000 : PpuAddr) ≤ 0x2000 ∧ (0x2000 : PpuAddr) ≤ 0x3EFF ∧
    (0x3EFF : PpuAddr) ≤ 0x3EFF ∧
    ntTableNumber State.reset.cart.layout 0x2000 = ntTableNumber State.reset.cart.layout 0x2400 ∧
    State.reset.cart.mapper = .mapper0 ∧ withMapper1.cart.mapper = .mapper1 mapper1Regs := by decide

/-- Five writes of the bits of 5 to 0xE000's register. -/
def serialWrites : List (Word × Byte) := [(0x8000, 1), (0x8000, 0), (0x8000, 1), (0x8000, 0), (0xE000, 0)]

/-- The largest address of register 7's window, with `vram` at its largest value, and writes at both of its ends. -/
theorem test_witness_DataPortAdvances :
    (0x2000 : Word) ≤ 0x3FFF ∧ (0x3FFF : Word) ≤ 0x3FFF ∧ (0x3FFF : Word).toNat % 8 = 7 ∧
    (0x3FFF : PpuAddr).toNat =
      (State.reset.setPpu { State.reset.ppu with vram := 0x7FFF }).ppu.vram.toNat % 0x4000 ∧
    State.reset.ppu.addrLatch = false ∧ (0x2000 : Word) ≤ 0x2006 ∧ (0x2006 : Word) ≤ 0x3FFF ∧
    (0x2006 : Word).toNat % 8 = 6 ∧ (0x2000 : Word) ≤ 0x3FFE ∧ (0x3FFE : Word) ≤ 0x3FFF ∧
    (0x3FFE : Word).toNat % 8 = 6 ∧
    ∀ w ∈ [((0x2007 : Word), (0x11 : Byte)), (0x3FFF, 0x22)],
      0x2000 ≤ w.1 ∧ w.1 ≤ 0x3FFF ∧ w.1.toNat % 8 = 7 := by
  refine ⟨by decide, by decide, by decide, by decide, rfl, by decide, by decide, by decide, by decide, by decide,
    by decide, ?_⟩
  intro w hw
  simp only [List.mem_cons, List.not_mem_nil, or_false] at hw
  rcases hw with rfl | rfl <;> decide

/-- R390: a write to register 7 stores at `vram` modulo 0x4000 and advances by 32 when the increment bit is set. -/
theorem test_data_write :
    let s := State.reset.setPpu { State.reset.ppu with vram := 0x6405, control := 0x04 }
    (s.memWrite 0x3FFF 0x77).ppuRead 0x2405 = 0x77 ∧ (s.memWrite 0x3FFF 0x77).ppu.vram = 0x6425 := by
  decide

theorem test_witness_SerialLoad :
    mapper1Regs.count = 0 ∧ serialWrites.length = 5 ∧ (∀ w ∈ serialWrites, w.2.getLsbD 7 = false) ∧
    (serialWrites.getLast?.map (·.1)) = some 0xE000 ∧
    (∀ (k : Nat) (h : k < serialWrites.length), (5 : BitVec 5).getLsbD k = serialWrites[k].2.getLsbD 0) ∧
    (0x01 : Byte).getLsbD 7 = false ∧ ({ mapper1Regs with count := 3 } : Mapper1).count < 4 ∧
    (0x80 : Byte).getLsbD 7 = true ∧ withMapper1.cart.mapper = .mapper1 mapper1Regs ∧
    (0x8000 : Word) ≤ 0x8000 ∧ (0x8000 : Word) ≤ 0xFFFF := by
  refine ⟨rfl, rfl, ?_, rfl, ?_, by decide, by decide, by decide, rfl, by decide, by decide⟩
  · intro w hw
    simp only [serialWrites, List.mem_cons, List.not_mem_nil, or_false] at hw
    rcases hw with rfl | rfl | rfl | rfl | rfl <;> decide
  · intro k hk
    have : k = 0 ∨ k = 1 ∨ k = 2 ∨ k = 3 ∨ k = 4 := by
      simp only [serialWrites, List.length_cons, List.length_nil] at hk
      omega
    rcases this with rfl | rfl | rfl | rfl | rfl <;> simp [serialWrites]

theorem test_witness_CartridgeMemory :
    (0x8000 : Word) ≤ 0x8000 ∧ (0x8000 : Word) ≤ 0xFFFF ∧ State.reset.cart.mapper = .mapper0 ∧
    withMapper1.cart.mapper = .mapper1 mapper1Regs ∧ mapper1Regs.prgRam.wf 8192 = true ∧
    (0x6000 : Word) ≤ 0x6000 ∧ (0x6000 : Word) ≤ 0x7FFF ∧ (0x6000 : Word) ≤ 0x7FFF ∧
    (0x0000 : PpuAddr) ≤ 0x1FFF ∧ (0x1FFF : PpuAddr) ≤ 0x1FFF ∧
    State.reset.cart.pattern = .ram [] ∧ withChrRom.cart.pattern = .rom 1 [] ∧
    withChrRom.cart.mapper = .mapper0 ∧
    (withMapper1.setCart { withMapper1.cart with pattern := .rom 2 [] }).cart.mapper =
      .mapper1 mapper1Regs := by decide

theorem test_witness_ApuRegisters :
    (∃ put : Pulse → Apu, ((0x4000 : Word), State.reset.apu.pulse1, put) ∈
      [((0x4000 : Word), State.reset.apu.pulse1, fun q : Pulse => { State.reset.apu with pulse1 := q }),
       (0x4004, State.reset.apu.pulse2, fun q => { State.reset.apu with pulse2 := q })]) ∧
    (0x4008 : Word) ≤ 0x400B ∧ (0x4010 : Word) ≤ 0x4013 :=
  ⟨⟨_, List.mem_cons_self⟩, by decide, by decide⟩

theorem test_witness_ApuChannelSteps :
    ({ Envelope.reset with start := true } : Envelope).start = true ∧ Envelope.reset.start = false ∧
    Envelope.reset.div = 0 ∧ ({ Envelope.reset with div := 15 } : Envelope).div ≠ 0 ∧
    Pulse.reset.timer = 0 ∧ ({ Pulse.reset with timer := 0x7FF } : Pulse).timer ≠ 0 ∧
    Apu.reset.noise.timer = 0 ∧ ({ Apu.reset.noise with timer := 1 } : Noise).timer ≠ 0 ∧
    Apu.reset.clock % 6 = 0 ∧ ({ Apu.reset with clock := 1 } : Apu).clock % 6 ≠ 0 ∧
    ({ Apu.reset with seqCount := 7456 } : Apu).seqCount + 1 = 7457 := by decide

theorem test_witness_LaunchDataIsFixed :
    (∃ t, step State.reset = .next t) ∧ withChrRom.cart.pattern = .rom 1 [] ∧
    State.reset.cart.mapper = .mapper0 ∧ withMapper1.cart.mapper = .mapper1 mapper1Regs := by
  refine ⟨⟨_, rfl⟩, by decide, by decide, by decide⟩

theorem test_witness_ResetValues :
    withMapper1.cart.mapper = .mapper1 mapper1Regs ∧ State.reset.cart.mapper = .mapper0 := by decide

theorem test_witness_FirstInstruction : 23 < 24 ∧ ∃ t, core.run 1 (hostReset State.reset) = .next t := by
  refine ⟨by decide, _, rfl⟩

theorem test_witness_StepKeepsMemories :
    State.reset.memoriesWf = true ∧ State.reset.frameWf = true ∧ ∃ t, step State.reset = .next t := by
  refine ⟨by decide, by decide, _, rfl⟩

theorem test_witness_StepKeepsStatusBits :
    State.reset.statusWf = true ∧ ∃ t, step State.reset = .next t := by
  refine ⟨by decide, _, rfl⟩

theorem test_witness_StepKeepsCountersAndUnits :
    State.reset.countersWf = true ∧ State.reset.unitsWf = true ∧ ∃ t, step State.reset = .next t := by
  refine ⟨by decide, by decide, _, rfl⟩

end Sys2Proof.Tests
end

section
/-! What no tick changes (R7, R49, R96, R529): the part of the machine that the cartridge and the launch fixed. A
bus write is the only operation that replaces the cartridge, so the argument is one lemma for each write decoder of
the cartridge, and `KeptByStep` carries it through the instructions, the DMA controller and the arbiter. -/

namespace Sys2Proof.Machine

/-- `d` is the cartridge `c` with at most its mapper's registers, CHR-RAM and request line changed (R49, R50). -/
structure Cartridge.SameFixed (c d : Cartridge) : Prop where
  prg : d.prg = c.prg
  prgBanks : d.prgBanks = c.prgBanks
  hint : d.hint = c.hint
  rom : ∀ banks data, c.pattern = .rom banks data → d.pattern = .rom banks data
  mapper0 : c.mapper = .mapper0 → d.mapper = .mapper0
  mapper1 : ∀ r, c.mapper = .mapper1 r → ∃ r', d.mapper = .mapper1 r'

namespace Cartridge.SameFixed

theorem refl (c : Cartridge) : c.SameFixed c :=
  ⟨rfl, rfl, rfl, fun _ _ h => h, fun h => h, fun r h => ⟨r, h⟩⟩

theorem trans {c d e : Cartridge} (h : c.SameFixed d) (k : d.SameFixed e) : c.SameFixed e where
  prg := k.prg.trans h.prg
  prgBanks := k.prgBanks.trans h.prgBanks
  hint := k.hint.trans h.hint
  rom banks data hp := k.rom _ _ (h.rom banks data hp)
  mapper0 hm := k.mapper0 (h.mapper0 hm)
  mapper1 r hm :=
    have ⟨r', hr'⟩ := h.mapper1 r hm
    k.mapper1 r' hr'

/-- New registers or PRG-RAM for a Mapper1 cartridge leave it one. -/
theorem setMapper1 {c : Cartridge} {r : Mapper1} (hr : c.mapper = .mapper1 r) (r' : Mapper1) :
    c.SameFixed { c with mapper := .mapper1 r' } :=
  { refl c with
    mapper0 := fun h => by simp [hr] at h
    mapper1 := fun _ _ => ⟨r', rfl⟩ }

/-- New CHR-RAM contents are no change of CHR ROM. -/
theorem setChrRam {c : Cartridge} {data : Memory} (hp : c.pattern = .ram data) (data' : Memory) :
    c.SameFixed { c with pattern := .ram data' } :=
  { refl c with rom := fun _ _ h => by simp [hp] at h }

/-- The request line is not part of what the cartridge fixes. -/
theorem setIrqState (c : Cartridge) (b : Bool) : c.SameFixed { c with irqState := b } :=
  { refl c with }

/-- A CPU write reaches Mapper1's registers and PRG-RAM at most (R523, R532). -/
theorem of_cpuWrite {c d : Cartridge} {a : Word} {v : Byte} (h : c.cpuWrite a v = some d) :
    c.SameFixed d := by
  unfold Cartridge.cpuWrite at h
  split at h
  · split at h <;> cases h
    exact refl c
  · next r hr =>
    split at h
    · cases h
      exact setMapper1 hr _
    · split at h <;> cases h
      exact setMapper1 hr _

/-- A PPU write reaches CHR-RAM at most (R525). -/
theorem of_ppuWrite {c d : Cartridge} {a : PpuAddr} {v : Byte} (h : c.ppuWrite a v = some d) :
    c.SameFixed d := by
  unfold Cartridge.ppuWrite at h
  split at h
  · cases h
  · split at h <;> cases h
    · next hp => exact setChrRam hp _
    · exact refl c

end Cartridge.SameFixed

/-- A write of the PPU's address space keeps what the cartridge fixes (R111). -/
theorem State.ppuWrite_sameFixed (s : State) (a : PpuAddr) (v : Byte) :
    s.cart.SameFixed (s.ppuWrite a v).cart := by
  unfold State.ppuWrite
  split
  · exact .refl _
  · split
    · next h => exact .of_ppuWrite h
    · split <;> exact .refl _

/-- Of the PPU's registers only register 7 reaches the cartridge, by a write of the PPU's address space (R390). -/
theorem State.ppuRegWrite_sameFixed (s : State) (r : Nat) (v : Byte) :
    s.cart.SameFixed (s.ppuRegWrite r v).cart := by
  unfold State.ppuRegWrite
  split
  case h_7 => -- `DataWrite` of register 7
    exact s.ppuWrite_sameFixed _ _
  all_goals exact .refl _

/-- A bus write keeps what the cartridge fixes, PRG ROM at 0x8000 and above included (R85, R96). -/
theorem State.memWrite_sameFixed (s : State) (a : Word) (v : Byte) :
    s.cart.SameFixed (s.memWrite a v).cart := by
  unfold State.memWrite State.decodeWrite
  split
  · next h => exact .of_cpuWrite h
  · split
    · exact .refl _
    · split
      · exact (s.noteWrite v).ppuRegWrite_sameFixed _ _
      · repeat' split
        all_goals exact .refl _

/-- `t` has the launch data of `s`: what its cartridge fixes, the parameters and the host's controller snapshots
(R7, R365, R529). -/
structure State.SameLaunchData (s t : State) : Prop where
  cart : s.cart.SameFixed t.cart
  params : t.params = s.params
  controller0 : t.controller0 = s.controller0
  controller1 : t.controller1 = s.controller1

namespace State.SameLaunchData

theorem refl (s : State) : s.SameLaunchData s := ⟨.refl _, rfl, rfl, rfl⟩

theorem trans {s t u : State} (h : s.SameLaunchData t) (k : t.SameLaunchData u) : s.SameLaunchData u :=
  ⟨h.cart.trans k.cart, k.params.trans h.params, k.controller0.trans h.controller0,
    k.controller1.trans h.controller1⟩

/-- The four fields that the launch data stand in. -/
theorem of_fields {s t : State} (hc : t.cart = s.cart) (hp : t.params = s.params)
    (h0 : t.controller0 = s.controller0) (h1 : t.controller1 = s.controller1) : s.SameLaunchData t :=
  ⟨hc ▸ .refl _, hp, h0, h1⟩

theorem memRead (s : State) (a : Word) : s.SameLaunchData (s.memRead a).state :=
  of_fields (s.memRead_cart a) (s.memRead_params a) (s.memRead_controller0 a) (s.memRead_controller1 a)

theorem memWrite (s : State) (a : Word) (v : Byte) : s.SameLaunchData (s.memWrite a v) := by
  obtain ⟨-, -, -, h0, h1, hp, -⟩ := s.memWrite_frame a v
  exact ⟨s.memWrite_sameFixed a v, hp, h0, h1⟩

theorem deviceClock (s : State) : s.SameLaunchData s.deviceClock := by
  obtain ⟨-, -, -, -, -, h0, h1, -, -, hc, hp, -⟩ := s.deviceClock_frame
  exact of_fields hc hp h0 h1

/-- The write half of a DMA sub-step goes to OAM, not through the bus (R354). -/
theorem dmaWrite (s : State) : s.SameLaunchData s.dmaWrite := by
  unfold State.dmaWrite
  dsimp only
  split <;> exact .of_fields rfl rfl rfl rfl

theorem dmaStep (s : State) : s.SameLaunchData s.dmaStep := by
  unfold State.dmaStep
  dsimp only
  split
  · split <;> exact .of_fields rfl rfl rfl rfl
  · split
    · exact dmaWrite s
    · exact (memRead s _).trans (of_fields rfl rfl rfl rfl)

/-- To have the launch data of `s` is kept by whatever a tick does. -/
theorem keptByStep (s : State) : KeptByStep s.SameLaunchData where
  cpu _ _ h := h.trans (of_fields rfl rfl rfl rfl)
  read _ a h := h.trans (memRead _ a)
  write _ a v h := h.trans (memWrite _ a v)
  device _ h := h.trans (deviceClock _)
  dma _ _ h := h.trans (dmaStep _)
  clearNmi _ h := h.trans (of_fields rfl rfl rfl rfl)
  clearIrq _ h := h.trans ⟨.setIrqState _ _, rfl, rfl, rfl⟩
  count _ h := h.trans (of_fields rfl rfl rfl rfl)

end State.SameLaunchData

/-- A step keeps the launch data. -/
theorem step_sameLaunchData {s t : State} (h : step s = .next t) : s.SameLaunchData t :=
  (State.SameLaunchData.keptByStep s).step (.refl s) h

/-- Settles O54: the launch data are an invariant of the step. -/
theorem launchDataIsFixed : Obligations.LaunchDataIsFixed := by
  intro s t h
  obtain ⟨hc, hparams, h0, h1⟩ := step_sameLaunchData h
  exact ⟨hc.prg, hc.prgBanks, hc.hint, hparams, h0, h1, hc.rom, hc.mapper0, hc.mapper1⟩

end Sys2Proof.Machine
end

section
/-! What one bus write can do, said once (R85), and the part of the picture unit that no write to its registers
reaches (R382). The invariants of this family and the frames of instructions are read off from these. -/

namespace Sys2Proof.Machine

/-- The machines that a write of `v` to `a` can give: one case for each thing that answers a write (R85). -/
inductive State.BusWrite (s : State) (a : Word) (v : Byte) : State → Prop
  | cart (c : Cartridge) (claimed : s.cart.cpuWrite a v = some c) : s.BusWrite a v ((s.noteWrite v).setCart c)
  | ram (low : a ≤ 0x1FFF) : s.BusWrite a v ((s.noteWrite v).setRam (s.ram.write (ramIndex a) v))
  | ppu (r : Nat) (ge : 0x2000 ≤ a) (le : a ≤ 0x3FFF) : s.BusWrite a v ((s.noteWrite v).ppuRegWrite r v)
  | apuControl : s.BusWrite a v ((s.noteWrite v).setApu (s.apu.controlWrite v))
  | apuRegister : s.BusWrite a v ((s.noteWrite v).setApu (s.apu.regWrite a v))
  | dma : s.BusWrite a v ((s.noteWrite v).dmaTrigger v)
  | controllers : s.BusWrite a v (s.noteWrite v).ctrlLatch
  | nobody : s.BusWrite a v (s.noteWrite v)

theorem State.memWrite_busWrite (s : State) (a : Word) (v : Byte) : s.BusWrite a v (s.memWrite a v) := by
  unfold State.memWrite State.decodeWrite
  split
  · next c h => exact .cart c h
  split
  · next h => exact .ram h
  next hram =>
  split
  · next h => exact .ppu _ (by bv_omega) h
  split
  · exact .apuControl
  split
  · exact .apuRegister
  split
  · exact .dma
  split
  · exact .controllers
  · exact .nobody

/-- A write to a PPU register stays in the picture unit and CHR-RAM, and leaves alone the counters, the sprite
bits and the frame (R382 to R390). -/
theorem State.ppuRegWrite_frame (s : State) (r : Nat) (v : Byte) :
    ∃ p pattern, s.ppuRegWrite r v = { s with ppu := p, cart := { s.cart with pattern := pattern } } ∧
      p.scanline = s.ppu.scanline ∧ p.cycle = s.ppu.cycle ∧ p.sprite0 = s.ppu.sprite0 ∧
      p.overflow = s.ppu.overflow ∧ p.frame = s.ppu.frame := by
  have same : ∀ p : Ppu, p.scanline = s.ppu.scanline → p.cycle = s.ppu.cycle → p.sprite0 = s.ppu.sprite0 →
      p.overflow = s.ppu.overflow → p.frame = s.ppu.frame → ∃ q pattern,
        s.setPpu p = { s with ppu := q, cart := { s.cart with pattern := pattern } } ∧
        q.scanline = s.ppu.scanline ∧ q.cycle = s.ppu.cycle ∧ q.sprite0 = s.ppu.sprite0 ∧
        q.overflow = s.ppu.overflow ∧ q.frame = s.ppu.frame :=
    fun p h1 h2 h3 h4 h5 => ⟨p, _, rfl, h1, h2, h3, h4, h5⟩
  unfold State.ppuRegWrite
  split
  case h_5 => -- the scroll register's two writes
    unfold Ppu.scrollWrite
    split <;> exact same _ rfl rfl rfl rfl rfl
  case h_6 => -- the address register's two writes
    unfold Ppu.addressWrite
    split <;> exact same _ rfl rfl rfl rfl rfl
  case h_7 => -- `DataWrite`: a write of the PPU's address space
    obtain ⟨nt0, nt1, pal, pattern, h⟩ := s.ppuWrite_frame s.ppu.dataAddr v
    refine ⟨({ s.ppu with nt0 := nt0, nt1 := nt1, pal := pal } : Ppu).vramIncrement, pattern, ?_,
      rfl, rfl, rfl, rfl, rfl⟩
    simp only [State.dataWrite, h]
    rfl
  all_goals exact same _ rfl rfl rfl rfl rfl

/-- No bus write reaches the frame (R45). -/
theorem State.memWrite_ppuFrame (s : State) (a : Word) (v : Byte) :
    (s.memWrite a v).ppu.frame = s.ppu.frame := by
  have h := s.memWrite_busWrite a v
  generalize s.memWrite a v = t at h
  cases h with
  | ppu r _ _ =>
    obtain ⟨p, pattern, h, -, -, -, -, hframe⟩ := (s.noteWrite v).ppuRegWrite_frame r v
    rw [h]
    exact hframe
  | _ => rfl

/-- No bus read reaches the frame. -/
theorem State.memRead_ppuFrame (s : State) (a : Word) : (s.memRead a).state.ppu.frame = s.ppu.frame := by
  obtain ⟨p, n, c0, c1, h, b, l, d, w, rfl⟩ := s.memRead_frame a
  rw [h]

end Sys2Proof.Machine
end

section
/-! Every step keeps the memories canonical and every pixel a 6-bit index (R34, R44, R45, R49, R50). -/

namespace Sys2Proof.Machine

/-- The pixel that a clock step of the picture unit may write lies in the frame and is a 6-bit index (R425). -/
theorem PictureStep.frame_canonical {s t : State} (h : PictureStep s t) (hwf : s.ppu.frame.wf 61440 = true) :
    t.ppu.frame.wf 61440 = true := by
  obtain e | ⟨k, v, hk, -, e⟩ := h.frame <;> rw [e]
  · exact hwf
  · exact Memory.write_wf v hwf hk

theorem PictureStep.frameWf {s t : State} (h : PictureStep s t) (hf : s.frameWf = true) : t.frameWf = true := by
  unfold State.frameWf at hf ⊢
  obtain e | ⟨k, v, -, hv, e⟩ := h.frame <;> rw [e]
  · exact hf
  · exact Memory.all_write hf (decide_eq_true hv)

/-- The devices write no memory but the frame. -/
theorem State.deviceClock_memoriesWf {s : State} (h : s.memoriesWf = true) : s.deviceClock.memoriesWf = true := by
  have hp := s.ppuClock_step
  obtain ⟨-, hram, -, -, -, -, -, -, -, hcart, -⟩ := s.deviceClock_frame
  rw [State.memoriesWf_iff] at h ⊢
  obtain ⟨ram, nt0, nt1, pal, oam, frame, cart⟩ := h
  rw [hram, hcart, s.deviceClock_ppu, hp.nt0, hp.nt1, hp.pal, hp.oam]
  exact ⟨ram, nt0, nt1, pal, oam, hp.frame_canonical frame, cart⟩

/-- A DMA sub-step reads the bus or writes OAM; neither is the frame. -/
theorem State.dmaStep_ppuFrame (s : State) : s.dmaStep.ppu.frame = s.ppu.frame := by
  unfold State.dmaStep
  dsimp only
  split
  · split <;> rfl
  · split
    · unfold State.dmaWrite
      dsimp only
      split <;> rfl
    · exact s.memRead_ppuFrame _

/-- The memories with their pixels: what `StepKeepsMemories` keeps. -/
def State.MemoriesKept (s : State) : Prop := s.memoriesWf = true ∧ s.frameWf = true

theorem State.MemoriesKept.keptByStep : KeptByStep State.MemoriesKept where
  cpu _ _ h := h
  read s a h := ⟨State.memRead_memoriesWf h.1 a, by rw [State.frameWf, s.memRead_ppuFrame]; exact h.2⟩
  write s a v h := ⟨State.memWrite_memoriesWf h.1 a v, by rw [State.frameWf, s.memWrite_ppuFrame]; exact h.2⟩
  device s h := ⟨State.deviceClock_memoriesWf h.1, s.ppuClock_step.frameWf h.2⟩
  dma s _ h := ⟨State.dmaStep_memoriesWf h.1, by rw [State.frameWf, s.dmaStep_ppuFrame]; exact h.2⟩
  clearNmi _ h := h
  clearIrq _ h := h
  count _ h := h

/-- Settles O57: the canonical form and the 6-bit pixels are kept by all that a tick is made of. -/
theorem stepKeepsMemories : Obligations.StepKeepsMemories := by
  intro s t hm hf h
  exact State.MemoriesKept.keptByStep.step ⟨hm, hf⟩ h

end Sys2Proof.Machine
end

section
/-! What an interrupt service of the arbiter can do (R341, R560 to R570): it leaves the devices' counters alone and
makes no request. -/

namespace Sys2Proof.Machine

/-- What the arbiter does to a machine, in the parts that the invariants speak of: `cyc` is at most that of an
interrupt entry, bit 5 of `P` stays, bit 4 is never set, and no NMI request is made. -/
structure InterruptStep (s t : State) : Prop where
  clock : t.clock = s.clock
  apu : t.apu = s.apu
  params : t.params = s.params
  cyc : t.cpu.cyc ≤ max 8 s.cpu.cyc
  unused : t.flag .u = s.flag .u
  brk : s.flag .b = false → t.flag .b = false
  nmiPending : s.ppu.nmiPending = false → t.ppu.nmiPending = false

namespace InterruptStep

theorem trans {s t u : State} (h : InterruptStep s t) (k : InterruptStep t u) : InterruptStep s u :=
  ⟨k.clock.trans h.clock, k.apu.trans h.apu, k.params.trans h.params,
    k.cyc.trans (max_le (le_max_left _ _) h.cyc), k.unused.trans h.unused, fun e => k.brk (h.brk e),
    fun e => k.nmiPending (h.nmiPending e)⟩

/-- A change of the cartridge, or of the picture unit that makes no request. -/
theorem of_request_cleared (s : State) (p : Ppu) (c : Cartridge)
    (hp : s.ppu.nmiPending = false → p.nmiPending = false) : InterruptStep s { s with ppu := p, cart := c } :=
  ⟨rfl, rfl, rfl, le_max_right _ _, rfl, id, hp⟩

theorem refl (s : State) : InterruptStep s s := of_request_cleared s s.ppu s.cart id

end InterruptStep

/-- A bus read makes no NMI request (R91). -/
theorem State.memRead_nmiPending (s : State) (a : Word) :
    (s.memRead a).state.ppu.nmiPending = s.ppu.nmiPending := by
  obtain ⟨p, n, c0, c1, h, b, l, d, w, rfl⟩ := s.memRead_frame a
  rw [h]

/-- Pushing a frame and reading a vector make no NMI request. -/
theorem State.enterInterrupt_nmiPending (s : State) (vector : Word) (cost : Nat) :
    (s.enterInterrupt vector cost).ppu.nmiPending = s.ppu.nmiPending := by
  simp [State.enterInterrupt, State.loadVector, State.read16, State.readPair, State.memRead_nmiPending,
    State.setFlag_eq, State.pushFrame_eq]

theorem InterruptStep.enterInterrupt (s : State) (vector : Word) {cost : Nat} (hcost : cost ≤ 8) :
    InterruptStep s (s.enterInterrupt vector cost) := by
  obtain ⟨-, -, -, hcyc, -, -, hclock, hapu, hparams, -⟩ := s.enterInterrupt_frame vector cost
  refine ⟨hclock, hapu, hparams, ?_, s.enterInterrupt_flag vector cost .u, fun _ =>
    s.enterInterrupt_flag vector cost .b, fun h => (s.enterInterrupt_nmiPending vector cost).trans h⟩
  rw [hcyc]
  omega

theorem State.serviceNmi_interruptStep (s : State) : InterruptStep s s.serviceNmi := by
  unfold State.serviceNmi
  split
  · exact (InterruptStep.of_request_cleared s _ s.cart fun _ => rfl).trans (.enterInterrupt _ _ le_rfl)
  · exact .refl s

theorem State.serviceIrq_interruptStep (s : State) : InterruptStep s s.serviceIrq := by
  unfold State.serviceIrq
  split
  · refine (InterruptStep.of_request_cleared s s.ppu s.cart.irqClear id).trans ?_
    unfold State.raiseIrq
    split
    · exact .refl _
    · exact .enterInterrupt _ _ (by omega)
  · exact .refl s

theorem State.arbiter_interruptStep (s : State) : InterruptStep s s.arbiter :=
  s.serviceNmi_interruptStep.trans s.serviceNmi.serviceIrq_interruptStep

/-- No NMI request outlives the arbiter (R562): one that stands is cleared before it is taken. -/
theorem State.arbiter_nmiPending (s : State) : s.arbiter.ppu.nmiPending = false := by
  refine s.serviceNmi.serviceIrq_interruptStep.nmiPending ?_
  cases h : s.ppu.nmiPending with
  | true =>
    rw [State.serviceNmi, if_pos h, State.raiseNmi, State.enterInterrupt_nmiPending]
    rfl
  | false =>
    rw [State.serviceNmi, if_neg (by simp [h])]
    exact h

end Sys2Proof.Machine
end

section
/-! The audio unit's part of the invariant (R465, R470, R490). -/

namespace Sys2Proof.Machine

/-- A silenced pulse channel has length 0 (R465). -/
def Pulse.Silenced (p : Pulse) : Prop := p.enable = true ∨ p.length = 0

/-- A silenced noise channel has length 0 (R465), and its register is not empty (R490). -/
structure Noise.Wf (n : Noise) : Prop where
  silenced : n.enable = true ∨ n.length = 0
  lfsr : n.lfsr ≠ 0

/-- The audio unit's part of `State.countersWf` and `State.unitsWf`, but for `apu_clock`. -/
structure Apu.Wf (u : Apu) : Prop where
  seqCount : u.seqCount < 14916
  pulse1 : u.pulse1.Silenced
  pulse2 : u.pulse2.Silenced
  noise : u.noise.Wf

/-- A length counter at 0 stays there (R483). -/
theorem lengthTick_zero (halt : Bool) : lengthTick halt 0 = 0 := by
  simp [lengthTick]

theorem Pulse.setEnable_silenced (p : Pulse) (b : Bool) : (p.setEnable b).Silenced := by
  cases b with
  | true => exact .inl rfl
  | false => exact .inr rfl

theorem Noise.setEnable_wf {n : Noise} (h : n.Wf) (b : Bool) : (n.setEnable b).Wf := by
  refine ⟨?_, h.lfsr⟩
  cases b with
  | true => exact .inl rfl
  | false => exact .inr rfl

theorem Apu.controlWrite_wf {u : Apu} (h : u.Wf) (v : Byte) : (u.controlWrite v).Wf :=
  ⟨h.seqCount, u.pulse1.setEnable_silenced _, u.pulse2.setEnable_silenced _, Noise.setEnable_wf h.noise _⟩

/-- A length load guarded by `enable` gives a silenced channel none. -/
theorem silenced_load {enable : Bool} {length : Byte} (h : enable = true ∨ length = 0) (new : Byte) :
    enable = true ∨ (if enable then new else length) = 0 := by
  cases enable with
  | true => exact .inl rfl
  | false => exact h

theorem Pulse.regWrite_silenced {p : Pulse} (h : p.Silenced) (r : Nat) (v : Byte) :
    (p.regWrite r v).Silenced := by
  unfold Pulse.regWrite
  split
  case h_4 => exact silenced_load h _
  all_goals exact h

theorem Noise.regWrite_wf {n : Noise} (h : n.Wf) (r : Nat) (v : Byte) : (n.regWrite r v).Wf := by
  unfold Noise.regWrite
  split
  case h_4 => exact ⟨silenced_load h.silenced _, h.lfsr⟩
  all_goals exact ⟨h.silenced, h.lfsr⟩

theorem Apu.regWrite_wf {u : Apu} (h : u.Wf) (a : Word) (v : Byte) : (u.regWrite a v).Wf := by
  unfold Apu.regWrite
  dsimp only
  split
  · exact { h with pulse1 := Pulse.regWrite_silenced h.pulse1 _ _ }
  split
  · exact { h with pulse2 := Pulse.regWrite_silenced h.pulse2 _ _ }
  split
  · exact { h with noise := Noise.regWrite_wf h.noise _ _ }
  · exact h

/-- A length counter at 0 stays there (R483). -/
theorem silenced_lengthTick {enable : Bool} {length : Byte} (h : enable = true ∨ length = 0) (halt : Bool) :
    enable = true ∨ lengthTick halt length = 0 :=
  h.imp id fun h0 => by simp [lengthTick, h0]

/-- A sweep unit retunes the timer and leaves the length alone (R486). -/
theorem Pulse.halfFrame_silenced {p : Pulse} (h : p.Silenced) (id : PulseId) : (p.halfFrame id).Silenced := by
  unfold Pulse.halfFrame Pulse.sweepTick
  dsimp only
  split <;> exact silenced_lengthTick h _

theorem Pulse.timerTick_silenced {p : Pulse} (h : p.Silenced) : p.timerTick.Silenced := by
  unfold Pulse.timerTick
  split <;> exact h

/-- A shift register that is not empty does not become empty: where the bit shifted out was its last, the feedback
bit is 1 (R490). -/
theorem lfsr_shift_ne_zero {l : BitVec 15} (h : l ≠ 0) (mode : Bool) :
    ((l >>> 1) ||| (if (l.getLsbD 0 ^^ (if mode then l.getLsbD 6 else l.getLsbD 1)) then 0x4000 else 0)) ≠ 0 := by
  by_cases h1 : l = 1
  · subst h1
    cases mode <;> decide
  · intro h0
    have hshift : l >>> 1 = 0 := (BitVec.or_eq_zero_iff.mp h0).1
    have hhalf : l.toNat / 2 = 0 := by
      have := congrArg BitVec.toNat hshift
      simpa [BitVec.toNat_ushiftRight, Nat.shiftRight_eq_div_pow] using this
    have hone : l.toNat ≠ 1 := fun e => h1 (BitVec.eq_of_toNat_eq e)
    have hzero : l.toNat ≠ 0 := fun e => h (BitVec.eq_of_toNat_eq e)
    omega

theorem Noise.timerTick_wf {n : Noise} (h : n.Wf) : n.timerTick.Wf := by
  unfold Noise.timerTick
  split
  · exact ⟨h.silenced, lfsr_shift_ne_zero h.lfsr n.mode⟩
  · exact ⟨h.silenced, h.lfsr⟩

/-- The envelopes are no part of it (R471). -/
theorem Apu.quarterFrame_wf {u : Apu} (h : u.Wf) : u.quarterFrame.Wf :=
  ⟨h.seqCount, h.pulse1, h.pulse2, h.noise.silenced, h.noise.lfsr⟩

theorem Apu.halfFrame_wf {u : Apu} (h : u.Wf) : u.halfFrame.Wf :=
  ⟨h.seqCount, Pulse.halfFrame_silenced h.pulse1 _, Pulse.halfFrame_silenced h.pulse2 _,
    silenced_lengthTick h.noise.silenced _, h.noise.lfsr⟩

theorem Apu.cycle_wf {u : Apu} (h : u.Wf) : u.cycle.Wf := by
  have hcount : ({ u with seqCount := if u.seqCount + 1 = 14916 then 0 else u.seqCount + 1 } : Apu).Wf := by
    refine { h with seqCount := ?_ }
    have := h.seqCount
    dsimp only
    split <;> omega
  have htimers : ∀ w : Apu, w.Wf →
      ({ w with pulse1 := w.pulse1.timerTick, pulse2 := w.pulse2.timerTick, noise := w.noise.timerTick } : Apu).Wf :=
    fun w hw => ⟨hw.seqCount, Pulse.timerTick_silenced hw.pulse1, Pulse.timerTick_silenced hw.pulse2,
      Noise.timerTick_wf hw.noise⟩
  unfold Apu.cycle
  refine htimers _ ?_
  split
  · refine Apu.halfFrame_wf ?_
    split
    · exact Apu.quarterFrame_wf hcount
    · exact hcount
  · split
    · exact Apu.quarterFrame_wf hcount
    · exact hcount

theorem Apu.tick_wf {u : Apu} (h : u.Wf) : u.tick.Wf := by
  unfold Apu.tick
  dsimp only
  split
  · have hc := Apu.cycle_wf h
    exact ⟨hc.seqCount, hc.pulse1, hc.pulse2, hc.noise⟩
  · exact ⟨h.seqCount, h.pulse1, h.pulse2, h.noise⟩

/-- `apu_clock` counts every tick (R470). -/
@[simp] theorem Apu.tick_clock (u : Apu) : u.tick.clock = u.clock + 1 := rfl

/-- No register of the audio unit is `apu_clock` (R462, R465). -/
theorem Apu.regWrite_clock (u : Apu) (a : Word) (v : Byte) : (u.regWrite a v).clock = u.clock := by
  unfold Apu.regWrite
  dsimp only
  repeat' split
  all_goals rfl

end Sys2Proof.Machine
end

section
/-! Every step keeps the counters in their ranges and the units in their states (R31, R40, R46, R50, R355, R435,
R465, R470, R490, R527, R562). The part that every piece of a tick keeps by itself is `State.DevicesWf`, carried by
`KeptByStep`. Three clauses hold only of a whole tick: the APU's count equals the tick count, `cyc` is bounded, and no
NMI request stands. -/

namespace Sys2Proof.Machine

/-- The cartridge's part: no mapper request (R527), and fewer than five serial writes accumulated (R530). -/
structure Cartridge.RegistersWf (c : Cartridge) : Prop where
  irqState : c.irqState = false
  count : ∀ r, c.mapper = .mapper1 r → r.count ≤ 4

/-- The DMA controller's part: an idle controller waits at index 0 (R355). -/
def Dma.Wf (d : Dma) : Prop := d.enable = true ∨ (d.wait = true ∧ d.index = 0)

/-- The picture unit's part: its counters (R40) and the sprite bits (R435). -/
structure Ppu.CountersWf (p : Ppu) : Prop where
  scanlineLow : -1 ≤ p.scanline
  scanlineHigh : p.scanline ≤ 260
  cycle : p.cycle ≤ 340
  sprite0 : p.sprite0 = false
  overflow : p.overflow = false

/-- The part of `State.countersWf` and `State.unitsWf` that every piece of a tick keeps. -/
structure State.DevicesWf (s : State) : Prop where
  ppu : s.ppu.CountersWf
  apu : s.apu.Wf
  dma : s.dma.Wf
  cart : s.cart.RegistersWf

/-- The two predicates of the model are `DevicesWf` with the three clauses of a whole tick. -/
theorem State.countersWf_and_unitsWf_iff (s : State) :
    (s.countersWf = true ∧ s.unitsWf = true) ↔
      s.DevicesWf ∧ s.apu.clock = s.clock ∧ s.cpu.cyc ≤ max 8 s.params.illegalCycles ∧
      s.ppu.nmiPending = false := by
  simp only [State.countersWf, State.unitsWf, Bool.and_eq_true, Bool.or_eq_true, Bool.not_eq_true',
    decide_eq_true_eq, bne_iff_ne, beq_iff_eq]
  constructor
  · rintro ⟨⟨⟨⟨⟨⟨⟨low, high⟩, cycle⟩, seqCount⟩, clock⟩, count⟩, cyc⟩,
      ⟨⟨⟨⟨⟨⟨⟨⟨nmi, irq⟩, sprite0⟩, overflow⟩, lfsr⟩, pulse1⟩, pulse2⟩, noise⟩, dma⟩⟩
    refine ⟨⟨⟨low, high, cycle, sprite0, overflow⟩, ⟨seqCount, pulse1, pulse2, noise, lfsr⟩, dma, irq, ?_⟩,
      clock, cyc, nmi⟩
    intro r hr
    rw [hr] at count
    exact of_decide_eq_true count
  · rintro ⟨⟨⟨low, high, cycle, sprite0, overflow⟩, ⟨seqCount, pulse1, pulse2, noise, lfsr⟩, dma, irq, count⟩,
      clock, cyc, nmi⟩
    refine ⟨⟨⟨⟨⟨⟨⟨low, high⟩, cycle⟩, seqCount⟩, clock⟩, ?_⟩, cyc⟩,
      ⟨⟨⟨⟨⟨⟨⟨⟨nmi, irq⟩, sprite0⟩, overflow⟩, lfsr⟩, pulse1⟩, pulse2⟩, noise⟩, dma⟩⟩
    split
    · rfl
    · next r hr => exact decide_eq_true (count r hr)

/-- The fifth serial write commits and starts over (R530). -/
theorem Mapper1.serialWrite_count {r : Mapper1} (h : r.count ≤ 4) (a : Word) (v : Byte) :
    (r.serialWrite a v).count ≤ 4 := by
  unfold Mapper1.serialWrite
  dsimp only
  split
  · exact Nat.zero_le _
  split
  · split <;> exact Nat.zero_le _
  · dsimp only
    omega

theorem Cartridge.cpuWrite_registersWf {c d : Cartridge} {a : Word} {v : Byte} (h : c.cpuWrite a v = some d)
    (hc : c.RegistersWf) : d.RegistersWf := by
  unfold Cartridge.cpuWrite at h
  split at h
  · split at h <;> cases h
    exact hc
  · next r hr =>
    have hcount := hc.count r hr
    split at h
    · cases h
      exact ⟨hc.irqState, fun r' e => by cases e; exact hcount⟩
    · split at h <;> cases h
      exact ⟨hc.irqState, fun r' e => by cases e; exact Mapper1.serialWrite_count hcount a v⟩

theorem State.memRead_devicesWf {s : State} (h : s.DevicesWf) (a : Word) : (s.memRead a).state.DevicesWf := by
  obtain ⟨p, n, c0, c1, e, b, l, d, w, rfl⟩ := s.memRead_frame a
  rw [e]
  exact { h with ppu := { h.ppu with } }

theorem State.memWrite_devicesWf {s : State} (h : s.DevicesWf) (a : Word) (v : Byte) :
    (s.memWrite a v).DevicesWf := by
  have hw := s.memWrite_busWrite a v
  generalize s.memWrite a v = t at hw
  cases hw with
  | cart c hc => exact { h with cart := Cartridge.cpuWrite_registersWf hc h.cart }
  | ram | controllers | nobody => exact { h with }
  | ppu r =>
    obtain ⟨p, pattern, e, hline, hcycle, hsprite0, hoverflow, -⟩ := (s.noteWrite v).ppuRegWrite_frame r v
    rw [e]
    refine { h with ppu := ⟨?_, ?_, ?_, hsprite0.trans h.ppu.sprite0, hoverflow.trans h.ppu.overflow⟩,
                    cart := { h.cart with } }
    · exact hline ▸ h.ppu.scanlineLow
    · exact hline ▸ h.ppu.scanlineHigh
    · exact hcycle ▸ h.ppu.cycle
  | apuControl => exact { h with apu := Apu.controlWrite_wf h.apu v }
  | apuRegister => exact { h with apu := Apu.regWrite_wf h.apu a v }
  | dma => exact { h with dma := .inl rfl }

/-- The counters run on in their ranges (R396). -/
theorem PictureStep.countersWf {s t : State} (h : PictureStep s t) (hs : s.ppu.CountersWf) :
    t.ppu.CountersWf := by
  obtain ⟨low, high, cycle, sprite0, overflow⟩ := hs
  refine ⟨?_, ?_, ?_, h.sprite0 sprite0, h.overflow overflow⟩
  · rw [h.scanline]
    split_ifs <;> omega
  · rw [h.scanline]
    split_ifs <;> omega
  · rw [h.cycle]
    split_ifs <;> omega

theorem State.deviceClock_devicesWf {s : State} (h : s.DevicesWf) : s.deviceClock.DevicesWf := by
  obtain ⟨-, -, -, -, -, -, -, -, hdma, hcart, -⟩ := s.deviceClock_frame
  refine ⟨s.ppuClock_step.countersWf h.ppu, ?_, hdma ▸ h.dma, hcart ▸ h.cart⟩
  rw [s.deviceClock_apu]
  exact Apu.tick_wf h.apu

/-- The controller stays enabled until its last write, which leaves it idle at index 0 (R355). -/
theorem State.dmaStep_devicesWf {s : State} (he : s.dma.enable = true) (h : s.DevicesWf) :
    s.dmaStep.DevicesWf := by
  unfold State.dmaStep
  dsimp only
  split
  · split
    · exact { h with dma := .inl he }
    · exact h
  · split
    · unfold State.dmaWrite
      dsimp only
      split
      · next hlast => exact { h with ppu := { h.ppu with }, dma := .inr ⟨rfl, hlast⟩ }
      · exact { h with ppu := { h.ppu with }, dma := .inl he }
    · have hr := State.memRead_devicesWf h s.dma.source
      refine { hr with dma := .inl ?_ }
      rw [State.dmaRead]
      simpa using he

theorem State.DevicesWf.keptByStep : KeptByStep State.DevicesWf where
  cpu _ _ h := { h with }
  read _ a h := State.memRead_devicesWf h a
  write _ a v h := State.memWrite_devicesWf h a v
  device _ h := State.deviceClock_devicesWf h
  dma _ he h := State.dmaStep_devicesWf he h
  clearNmi _ h := { h with ppu := { h.ppu with } }
  clearIrq _ h := { h with cart := { h.cart with irqState := rfl } }
  count _ h := { h with }

/-- No write reaches `apu_clock` (R462, R465). -/
theorem State.memWrite_apuClock (s : State) (a : Word) (v : Byte) :
    (s.memWrite a v).apu.clock = s.apu.clock := by
  have h := s.memWrite_busWrite a v
  generalize s.memWrite a v = t at h
  cases h with
  | ppu r =>
    obtain ⟨p, pattern, e, -⟩ := (s.noteWrite v).ppuRegWrite_frame r v
    rw [e]
    rfl
  | apuRegister => exact s.apu.regWrite_clock a v
  | _ => rfl

/-- Both counts of ticks and the launch parameters, which no instruction changes. -/
def State.SameCounts (s t : State) : Prop :=
  t.clock = s.clock ∧ t.apu.clock = s.apu.clock ∧ t.params = s.params

theorem State.SameCounts.kept (s : State) : Kept s.SameCounts where
  cpu _ _ h := h
  read u a h := by
    rwa [State.SameCounts, u.memRead_clock, u.memRead_apu, u.memRead_params]
  write u a v h := by
    obtain ⟨-, -, hclock, -, -, hparams, -⟩ := u.memWrite_frame a v
    rwa [State.SameCounts, hclock, u.memWrite_apuClock, hparams]

/-- A DMA sub-step runs in the CPU's place and leaves it alone (R342, R351). -/
theorem State.dmaStep_frame (s : State) : s.dmaStep.cpu = s.cpu ∧ s.SameCounts s.dmaStep := by
  unfold State.dmaStep
  dsimp only
  split
  · split <;> exact ⟨rfl, rfl, rfl, rfl⟩
  · split
    · unfold State.dmaWrite
      dsimp only
      split <;> exact ⟨rfl, rfl, rfl, rfl⟩
    · exact ⟨s.memRead_cpu _, (State.SameCounts.kept s).read s _ ⟨rfl, rfl, rfl⟩⟩

/-- An instruction's cost is its base cost, one clock for a crossed page, and a taken branch's extra (R162). -/
theorem State.charge_cyc_le (s : State) {base br : Nat} (crossed extra : Bool) (n : Nat) (h : base + 1 + br ≤ 8) :
    (s.charge base crossed extra br).cpu.cyc ≤ max 8 n := by
  have := Bool.toNat_le (crossed && extra)
  rw [State.charge_cyc]
  omega

theorem branch_cyc_le {cond : Bool} {b : Byte} {s t : State} (n : Nat) (h : branch cond b s 2 = .next t) :
    t.cpu.cyc ≤ max 8 n := by
  unfold branch at h
  dsimp only at h
  split at h <;> cases h
  · refine State.charge_cyc_le _ _ _ n ?_
    split <;> omega
  · exact State.charge_cyc_le _ _ _ n (by omega)

/-- No documented instruction takes more than 8 clocks, and the placeholder takes `ILLEGAL_CYCLES` (R135, R315). -/
theorem exec_cyc_le {i : Instr} {s t : State} (h : exec i s = .next t) :
    t.cpu.cyc ≤ max 8 s.params.illegalCycles := by
  cases i with
  | bcc | bcs | beq | bne | bpl | bmi | bvc | bvs => exact branch_cyc_le _ h
  | ill => cases h; exact le_max_right _ _
  | _ => cases h; exact State.charge_cyc_le _ _ _ _ (by omega)

/-- What a tick does to both counts and to `cyc`, before its arbiter (R341). -/
theorem step_counts {s t : State} (h : step s = .next t) :
    ∃ u, t = u.endTick ∧ s.deviceClock.SameCounts u ∧
      u.cpu.cyc ≤ max s.cpu.cyc (max 8 s.params.illegalCycles) := by
  obtain ⟨u, rfl, hu⟩ := step_cases h
  obtain ⟨hcpu, -, -, -, -, -, -, -, -, -, hparams, -⟩ := s.deviceClock_frame
  have hkept := State.SameCounts.kept s.deviceClock
  have hsame : s.deviceClock.SameCounts s.deviceClock := ⟨rfl, rfl, rfl⟩
  refine ⟨u, rfl, ?_⟩
  rw [← hcpu, ← hparams]
  rcases hu with ⟨-, rfl⟩ | ⟨-, -, rfl⟩ | ⟨-, -, hc⟩
  · exact ⟨hsame, le_max_left _ _⟩
  · obtain ⟨hcpu', hcounts⟩ := s.deviceClock.dmaStep_frame
    exact ⟨hcounts, hcpu' ▸ le_max_left _ _⟩
  · rcases State.cpuClock_cases hc with ⟨-, v, hv, rfl⟩ | ⟨-, rfl⟩
    · have hfetch := hkept.fetchInstr hsame
      have hle := exec_cyc_le hv
      rw [hfetch.2.2] at hle
      exact ⟨hkept.setCyc (hkept.exec hfetch hv) _, (Nat.sub_le _ _).trans (hle.trans (le_max_right _ _))⟩
    · exact ⟨hkept.setCyc hsame _, (Nat.sub_le _ _).trans (le_max_left _ _)⟩

/-- Settles O59: `DevicesWf` is kept piece by piece, the clauses of a whole tick by the tick's count and arbiter. -/
theorem stepKeepsCountersAndUnits : Obligations.StepKeepsCountersAndUnits := by
  intro s t hcounters hunits h
  obtain ⟨hdevices, hclock, hcyc, -⟩ := s.countersWf_and_unitsWf_iff.1 ⟨hcounters, hunits⟩
  refine t.countersWf_and_unitsWf_iff.2 ⟨State.DevicesWf.keptByStep.step hdevices h, ?_⟩
  obtain ⟨u, rfl, ⟨hu, hapu, hparams⟩, hle⟩ := step_counts h
  obtain ⟨-, -, -, -, -, -, -, hclockDev, -, -, hparamsDev, -⟩ := s.deviceClock_frame
  have ha := u.arbiter_interruptStep
  refine ⟨?_, ?_, u.arbiter_nmiPending⟩
  · calc u.arbiter.apu.clock
        = s.apu.clock + 1 := by rw [ha.apu, hapu, s.deviceClock_apu, Apu.tick_clock]
      _ = u.arbiter.clock + 1 := by rw [ha.clock, hu, hclockDev, hclock]
  · calc u.arbiter.cpu.cyc
        ≤ max 8 s.params.illegalCycles := by have := ha.cyc; omega
      _ = max 8 u.arbiter.params.illegalCycles := by rw [ha.params, hparams, hparamsDev]

end Sys2Proof.Machine
end

section
/-! The footprint of an instruction: the registers and flags of its row of R29 and the addresses it stores to. That
everything outside it is as before is shown once for every instruction, by the operations it is made of. -/

namespace Sys2Proof.Machine

/-- PRG-RAM shows 8192 addresses, each its own byte (R531). -/
theorem prgRamIndex_inj {a b : Word} (ha : inPrgRam a = true) (hb : inPrgRam b = true)
    (h : prgRamIndex a = prgRamIndex b) : a = b := by
  have hmod : ∀ w : Word, prgRamIndex w = w.toNat % 8192 := fun w => by
    rw [prgRamIndex, BitVec.toNat_and, show (0x1FFF : Word).toNat = 2 ^ 13 - 1 from rfl,
      Nat.and_two_pow_sub_one_eq_mod]
  simp only [inPrgRam, Bool.and_eq_true, decide_eq_true_eq, BitVec.le_def] at ha hb
  rw [hmod, hmod] at h
  have ha1 : 0x6000 ≤ a.toNat := ha.1
  have ha2 : a.toNat ≤ 0x7FFF := ha.2
  have hb1 : 0x6000 ≤ b.toNat := hb.1
  have hb2 : b.toNat ≤ 0x7FFF := hb.2
  exact BitVec.eq_of_toNat_eq (by omega)

/-- The serial port is no part of PRG-RAM (R530, R531). -/
theorem Mapper1.serialWrite_prgRam (r : Mapper1) (a : Word) (v : Byte) :
    (r.serialWrite a v).prgRam = r.prgRam := by
  unfold Mapper1.serialWrite
  dsimp only
  split
  · rfl
  split
  · split <;> rfl
  · rfl

/-- A CPU write to the cartridge changes what the CPU sees there at the written address only, and at 0x8000 and above
only if it went there (R523, R530, R532). -/
theorem Cartridge.cpuRead_of_cpuWrite {c d : Cartridge} {a b : Word} {v : Byte} (h : c.cpuWrite a v = some d)
    (hrom : b < 0x8000 ∨ a < 0x8000) (hne : a ≠ b) : d.cpuRead b = c.cpuRead b := by
  unfold Cartridge.cpuWrite at h
  split at h
  · split at h <;> cases h
    rfl
  · next r hr =>
    split at h
    · next ha => -- PRG-RAM: another byte, the same banks
      cases h
      simp only [Cartridge.cpuRead, hr]
      by_cases hb : inPrgRam b = true
      · have : prgRamIndex b ≠ prgRamIndex a := fun e => hne (prgRamIndex_inj ha hb e.symm)
        simp only [hb, if_true, Memory.read_write_other _ _ this]
      · simp only [hb, Cartridge.prgIndex, hr]
        rfl
    · split at h <;> cases h
      next ha => -- the serial port: banks move, and `b` lies below them
      have hb : ¬(0x8000 : Word) ≤ b := by bv_omega
      simp only [Cartridge.cpuRead, hr, if_neg hb, r.serialWrite_prgRam]

/-- A bus write is seen at the written cell only, and from 0x8000 only if it went there (R85, R86, R96). -/
theorem State.peek_memWrite (s : State) {a b : Word} (v : Byte) (hrom : b < 0x8000 ∨ a < 0x8000)
    (hcell : ¬SameCell a b) : (s.memWrite a v).peek b = s.peek b := by
  have h := s.memWrite_busWrite a v
  generalize s.memWrite a v = t at h
  cases h with
  | cart c hc =>
    have hne : a ≠ b := fun e => hcell (.inl e)
    simp only [State.peek, State.setCart_cart, Cartridge.cpuRead_of_cpuWrite hc hrom hne]
    rfl
  | ram ha =>
    by_cases hb : b ≤ 0x1FFF
    · have hne : ramIndex b ≠ ramIndex a := fun e => hcell (.inr ⟨ha, hb, e.symm⟩)
      simp only [State.peek, State.setRam_ram, Memory.read_write_other _ _ hne]
      rfl
    · simp only [State.peek, if_neg hb]
      rfl
  | ppu r =>
    obtain ⟨p, pattern, e, -⟩ := (s.noteWrite v).ppuRegWrite_frame r v
    rw [e]
    rfl
  | _ => rfl

/-- A bus write changes at most the RAM byte that its address names (R86). -/
theorem State.ram_read_memWrite (s : State) {a : Word} (v : Byte) {k : Nat}
    (hk : a ≤ 0x1FFF → ramIndex a ≠ k) : (s.memWrite a v).ram.read k = s.ram.read k := by
  have h := s.memWrite_busWrite a v
  generalize s.memWrite a v = t at h
  cases h with
  | ram ha => exact Memory.read_write_other _ v (hk ha).symm
  | ppu r =>
    obtain ⟨p, pattern, e, -⟩ := (s.noteWrite v).ppuRegWrite_frame r v
    rw [e]
    rfl
  | _ => rfl

/-- The memories behind the PPU's registers. -/
def State.SamePictureMemory (s t : State) : Prop :=
  t.ppu.nt0 = s.ppu.nt0 ∧ t.ppu.nt1 = s.ppu.nt1 ∧ t.ppu.pal = s.ppu.pal ∧ t.ppu.oam = s.ppu.oam ∧
  t.cart.pattern = s.cart.pattern

/-- A CPU write to the cartridge does not reach pattern memory (R523, R532). -/
theorem Cartridge.cpuWrite_pattern {c d : Cartridge} {a : Word} {v : Byte} (h : c.cpuWrite a v = some d) :
    d.pattern = c.pattern := by
  unfold Cartridge.cpuWrite at h
  split at h
  · split at h <;> cases h
    rfl
  · split at h
    · cases h
      rfl
    · split at h <;> cases h
      rfl

/-- Only the PPU's window leads to the memories behind its registers (R85, R87). -/
theorem State.memWrite_samePictureMemory (s : State) {a : Word} (v : Byte)
    (ha : ¬(0x2000 ≤ a ∧ a ≤ 0x3FFF)) : s.SamePictureMemory (s.memWrite a v) := by
  have h := s.memWrite_busWrite a v
  generalize s.memWrite a v = t at h
  cases h with
  | cart c hc => exact ⟨rfl, rfl, rfl, rfl, Cartridge.cpuWrite_pattern hc⟩
  | ppu r ge le => exact absurd ⟨ge, le⟩ ha
  | _ => exact ⟨rfl, rfl, rfl, rfl, rfl⟩

/-- What stores to the listed addresses leave of memory: the clauses of R85, R86 and R96 for everything else. -/
structure StoresOnly (stored : List Word) (s t : State) : Prop where
  nothing : stored = [] → SameMemory s t
  view : ∀ b : Word, (b < 0x8000 ∨ ∀ a ∈ stored, a < 0x8000) → (∀ a ∈ stored, ¬SameCell a b) →
    t.peek b = s.peek b
  ram : ∀ k, (∀ a ∈ stored, a ≤ 0x1FFF → ramIndex a ≠ k) → t.ram.read k = s.ram.read k
  prg : t.cart.prg = s.cart.prg
  picture : (∀ a ∈ stored, ¬(0x2000 ≤ a ∧ a ≤ 0x3FFF)) → s.SamePictureMemory t
  frame : t.ppu.frame = s.ppu.frame

/-- A bus read keeps every memory (R91). -/
theorem State.memRead_sameMemory (s : State) (a : Word) : SameMemory s (s.memRead a).state := by
  obtain ⟨p, n, c0, c1, h, b, l, d, w, rfl⟩ := s.memRead_frame a
  rw [h]
  exact ⟨fun _ => rfl, rfl, rfl, rfl, rfl, rfl, rfl, rfl⟩

namespace StoresOnly

variable {stored : List Word} {s t u : State}

theorem of_sameMemory (h : SameMemory s t) : StoresOnly stored s t := by
  have ⟨hpeek, hram, hcart, hnt0, hnt1, hpal, hoam, hframe⟩ := h
  exact ⟨fun _ => h, fun b _ _ => hpeek b, fun k _ => by rw [hram], by rw [hcart],
    fun _ => ⟨hnt0, hnt1, hpal, hoam, by rw [hcart]⟩, hframe⟩

theorem refl (s : State) : StoresOnly stored s s :=
  of_sameMemory ⟨fun _ => rfl, rfl, rfl, rfl, rfl, rfl, rfl, rfl⟩

/-- One bus write, to a listed address. -/
theorem memWrite (s : State) {a : Word} (ha : a ∈ stored) (v : Byte) : StoresOnly stored s (s.memWrite a v) where
  nothing h := absurd ha (by simp [h])
  view _ hrom hcell := s.peek_memWrite v (hrom.imp id fun h => h a ha) (hcell a ha)
  ram _ hk := s.ram_read_memWrite v (hk a ha)
  prg := by
    obtain ⟨-, -, -, -, -, -, -, -, hprg, -⟩ := s.memWrite_frame a v
    exact hprg
  picture h := s.memWrite_samePictureMemory v (h a ha)
  frame := s.memWrite_ppuFrame a v

theorem trans (h : StoresOnly stored s t) (k : StoresOnly stored t u) : StoresOnly stored s u where
  nothing e := by
    obtain ⟨hpeek, hram, hcart, hnt0, hnt1, hpal, hoam, hframe⟩ := h.nothing e
    obtain ⟨kpeek, kram, kcart, knt0, knt1, kpal, koam, kframe⟩ := k.nothing e
    exact ⟨fun b => (kpeek b).trans (hpeek b), kram.trans hram, kcart.trans hcart, knt0.trans hnt0,
      knt1.trans hnt1, kpal.trans hpal, koam.trans hoam, kframe.trans hframe⟩
  view b hrom hcell := (k.view b hrom hcell).trans (h.view b hrom hcell)
  ram n hn := (k.ram n hn).trans (h.ram n hn)
  prg := k.prg.trans h.prg
  picture e := by
    obtain ⟨hnt0, hnt1, hpal, hoam, hpattern⟩ := h.picture e
    obtain ⟨knt0, knt1, kpal, koam, kpattern⟩ := k.picture e
    exact ⟨knt0.trans hnt0, knt1.trans hnt1, kpal.trans hpal, koam.trans hoam, kpattern.trans hpattern⟩
  frame := k.frame.trans h.frame

/-- No memory stands in the CPU. -/
theorem cpu (h : StoresOnly stored s t) (c : Cpu) : StoresOnly stored s { t with cpu := c } := { h with }

end StoresOnly

/-- The CPU registers that an instruction's row of R29 can name beside the flags. -/
inductive Reg where
  | a
  | x
  | y
  | s
  | pc

/-- The registers an instruction writes: the second column of R29. -/
def regsWritten (m : Mnemonic) (mode : Mode) : List Reg :=
  match m with
  | .lda | .txa | .tya | .adc | .sbc | .and | .ora | .eor => [.a]
  | .asl | .lsr | .rol | .ror => if mode = .imp then [.a] else []
  | .ldx | .tax | .tsx | .inx | .dex => [.x]
  | .ldy | .tay | .iny | .dey => [.y]
  | .txs | .pha | .php | .plp => [.s]
  | .pla => [.a, .s]
  | .jsr | .rts | .brk | .rti => [.s, .pc]
  | .bcc | .bcs | .beq | .bne | .bpl | .bmi | .bvc | .bvs | .jmp => [.pc]
  | .sta | .stx | .sty | .inc | .dec | .bit | .cmp | .cpx | .cpy | .clc | .sec | .cli | .sei | .clv | .cld | .sed
  | .nop | .ill => []

/-- The flags an instruction assigns: its row of R29, and for the two that load `P` from the stack also bits 4 and 5,
which they set to the values of R27 (R300). -/
def flagsAssigned (m : Mnemonic) : List Flag :=
  match m with
  | .plp | .rti => [.b, .u] ++ flagsWritten m
  | m => flagsWritten m

/-- What an operation may write: registers, flags, and memory through the bus. -/
structure Footprint where
  regs : List Reg
  flags : List Flag
  stored : List Word

/-- The footprint of an instruction on a machine whose `PC` is past its operand bytes. -/
def State.footprint (s : State) (i : Instr) : Footprint :=
  ⟨regsWritten i.mnemonic i.mode, flagsAssigned i.mnemonic, s.storedAt i⟩

/-- From `s` to `t` nothing outside the footprint changed. -/
structure Footprint.Covers (p : Footprint) (s t : State) : Prop where
  a : .a ∉ p.regs → t.cpu.a = s.cpu.a
  x : .x ∉ p.regs → t.cpu.x = s.cpu.x
  y : .y ∉ p.regs → t.cpu.y = s.cpu.y
  sp : .s ∉ p.regs → t.cpu.s = s.cpu.s
  pc : .pc ∉ p.regs → t.cpu.pc = s.cpu.pc
  flags : FlagsKeptBut p.flags s t
  memory : StoresOnly p.stored s t

namespace Footprint.Covers

variable {p : Footprint} {s t : State}

theorem refl (p : Footprint) (s : State) : p.Covers s s :=
  ⟨fun _ => rfl, fun _ => rfl, fun _ => rfl, fun _ => rfl, fun _ => rfl, fun _ _ => rfl, .refl s⟩

/-- An operation that keeps the CPU and stores inside the footprint. -/
theorem device {u : State} (h : p.Covers s t) (hcpu : u.cpu = t.cpu) (hm : StoresOnly p.stored t u) :
    p.Covers s u where
  a e := hcpu ▸ h.a e
  x e := hcpu ▸ h.x e
  y e := hcpu ▸ h.y e
  sp e := hcpu ▸ h.sp e
  pc e := hcpu ▸ h.pc e
  flags f e := (State.flag_of_p (by rw [hcpu]) f).trans (h.flags f e)
  memory := h.memory.trans hm

theorem setA (h : p.Covers s t) (hr : .a ∈ p.regs) (v : Byte) : p.Covers s (t.setA v) :=
  { h with a := fun e => absurd hr e, memory := h.memory.cpu _ }

theorem setX (h : p.Covers s t) (hr : .x ∈ p.regs) (v : Byte) : p.Covers s (t.setX v) :=
  { h with x := fun e => absurd hr e, memory := h.memory.cpu _ }

theorem setY (h : p.Covers s t) (hr : .y ∈ p.regs) (v : Byte) : p.Covers s (t.setY v) :=
  { h with y := fun e => absurd hr e, memory := h.memory.cpu _ }

theorem setS (h : p.Covers s t) (hr : .s ∈ p.regs) (v : Byte) : p.Covers s (t.setS v) :=
  { h with sp := fun e => absurd hr e, memory := h.memory.cpu _ }

theorem setPc (h : p.Covers s t) (hr : .pc ∈ p.regs) (w : Word) : p.Covers s (t.setPc w) :=
  { h with pc := fun e => absurd hr e, memory := h.memory.cpu _ }

/-- The cost of an instruction is in no row of R29. -/
theorem charge (h : p.Covers s t) (n : Nat) (c e : Bool) (k : Nat) : p.Covers s (t.charge n c e k) :=
  { h with memory := h.memory.cpu _ }

theorem setFlag (h : p.Covers s t) {f : Flag} (hf : f ∈ p.flags) (b : Bool) : p.Covers s (t.setFlag f b) where
  a := h.a
  x := h.x
  y := h.y
  sp := h.sp
  pc := h.pc
  flags g hg := by
    have hne : g ≠ f := fun e => hg (e ▸ hf)
    rw [State.flag_setFlag, if_neg hne]
    exact h.flags g hg
  memory := h.memory.cpu _

/-- The whole of `P`, for a footprint with all eight flags. -/
theorem setP (h : p.Covers s t) (hf : ∀ f, f ∈ p.flags) (v : Byte) : p.Covers s (t.setP v) :=
  { h with flags := fun f e => absurd (hf f) e, memory := h.memory.cpu _ }

theorem setZN (h : p.Covers s t) (hf : ∀ f ∈ [Flag.z, .n], f ∈ p.flags) (v : Byte) : p.Covers s (t.setZN v) :=
  (h.setFlag (hf .z (by decide)) _).setFlag (hf .n (by decide)) _

theorem setSumFlags (h : p.Covers s t) (hf : ∀ f ∈ [Flag.c, .z, .v, .n], f ∈ p.flags) (r : Sum) :
    p.Covers s (t.setSumFlags r) :=
  (((h.setFlag (hf .c (by decide)) _).setFlag (hf .z (by decide)) _).setFlag (hf .v (by decide)) _).setFlag
    (hf .n (by decide)) _

theorem setCompareFlags (h : p.Covers s t) (hf : ∀ f ∈ [Flag.c, .z, .n], f ∈ p.flags) (r m : Byte) :
    p.Covers s (t.setCompareFlags r m) :=
  ((h.setFlag (hf .c (by decide)) _).setFlag (hf .z (by decide)) _).setFlag (hf .n (by decide)) _

theorem setBitTestFlags (h : p.Covers s t) (hf : ∀ f ∈ [Flag.z, .v, .n], f ∈ p.flags) (m : Byte) :
    p.Covers s (t.setBitTestFlags m) :=
  ((h.setFlag (hf .z (by decide)) _).setFlag (hf .n (by decide)) _).setFlag (hf .v (by decide)) _

theorem setShiftFlags (h : p.Covers s t) (hf : ∀ f ∈ [Flag.c, .z, .n], f ∈ p.flags) (r : Shifted) :
    p.Covers s (t.setShiftFlags r) :=
  ((h.setFlag (hf .c (by decide)) _).setFlag (hf .z (by decide)) _).setFlag (hf .n (by decide)) _

theorem read (h : p.Covers s t) (a : Word) : p.Covers s (t.memRead a).state :=
  h.device (t.memRead_cpu a) (.of_sameMemory (t.memRead_sameMemory a))

theorem write (h : p.Covers s t) {a : Word} (ha : a ∈ p.stored) (v : Byte) : p.Covers s (t.memWrite a v) := by
  obtain ⟨hcpu, -⟩ := t.memWrite_frame a v
  exact h.device hcpu (.memWrite t ha v)

theorem readPair (h : p.Covers s t) (a b : Word) : p.Covers s (t.readPair a b).state := (h.read a).read b

theorem locate (h : p.Covers s t) (i : Instr) : p.Covers s (t.locate i).state := by
  unfold State.locate
  split
  case h_10 => exact h.readPair _ _ -- IND
  case h_11 => exact h.readPair _ _ -- IZX
  case h_12 => exact h.readPair _ _ -- IZY
  all_goals exact h

theorem operand (h : p.Covers s t) (i : Instr) : p.Covers s (t.operand i).state := by
  unfold State.operand
  split
  case h_1 => exact h
  case h_2 => exact h
  all_goals exact (h.locate i).read _

theorem push (h : p.Covers s t) (hr : .s ∈ p.regs) (ha : stackAddr t.cpu.s ∈ p.stored) (v : Byte) :
    p.Covers s (t.push v) := (h.write ha v).setS hr _

theorem pushWord (h : p.Covers s t) (hr : .s ∈ p.regs) (ha : stackAddr t.cpu.s ∈ p.stored)
    (hb : stackAddr (t.cpu.s - 1) ∈ p.stored) (w : Word) : p.Covers s (t.pushWord w) := by
  refine (h.push hr ha _).push hr ?_ _
  rwa [State.push_eq]

theorem pushFrame (h : p.Covers s t) (hr : .s ∈ p.regs) (ha : stackAddr t.cpu.s ∈ p.stored)
    (hb : stackAddr (t.cpu.s - 1) ∈ p.stored) (hc : stackAddr (t.cpu.s - 2) ∈ p.stored) (brk : Bool) :
    p.Covers s (t.pushFrame brk) := by
  refine (h.pushWord hr ha hb _).push hr ?_ _
  rwa [State.pushWord_eq]

theorem pull (h : p.Covers s t) (hr : .s ∈ p.regs) : p.Covers s t.pull.state := (h.setS hr _).read _

theorem pullWord (h : p.Covers s t) (hr : .s ∈ p.regs) : p.Covers s t.pullWord.state := (h.pull hr).pull hr

end Footprint.Covers

end Sys2Proof.Machine
end

section
/-! Every instruction stays in its footprint; from that, the register table of R29 and the frame of memory. -/

namespace Sys2Proof.Machine

/-- A store, an increment or a decrement stores at its effective address. -/
theorem State.storedAt_of_store (s : State) {i : Instr}
    (hm : i.mnemonic ∈ [Mnemonic.sta, .stx, .sty, .inc, .dec]) : s.storedAt i = [(s.locate i).ea] := by
  simp only [List.mem_cons, List.not_mem_nil, or_false] at hm
  rcases hm with hm | hm | hm | hm | hm <;> simp only [State.storedAt, hm]

/-- So does a memory form of a shift or rotate (R270). -/
theorem State.storedAt_of_shift (s : State) {i : Instr} (hm : i.mnemonic ∈ [Mnemonic.asl, .lsr, .rol, .ror])
    (hmode : i.mode ≠ .imp) : s.storedAt i = [(s.locate i).ea] := by
  simp only [List.mem_cons, List.not_mem_nil, or_false] at hm
  rcases hm with hm | hm | hm | hm <;> simp only [State.storedAt, hm, if_neg hmode]

namespace Footprint.Covers

/-- An instruction that reads an operand: one bus read at most, then CPU updates. -/
theorem execRead {i : Instr} {s t : State} (he : Machine.exec i s = .next t)
    (hi : i.mnemonic ∈ [Mnemonic.lda, .ldx, .ldy, .adc, .sbc, .and, .ora, .eor, .bit, .cmp, .cpx, .cpy]) :
    (s.footprint i).Covers s t := by
  have hreg : ∀ r, r ∈ regsWritten i.mnemonic i.mode → r ∈ (s.footprint i).regs := fun _ h => h
  have hflags : ∀ f, f ∈ flagsAssigned i.mnemonic → f ∈ (s.footprint i).flags := fun _ h => h
  have ho := (refl (s.footprint i) s).operand i
  simp only [List.mem_cons, List.not_mem_nil, or_false] at hi
  rcases hi with hm | hm | hm | hm | hm | hm | hm | hm | hm | hm | hm | hm <;> rw [hm] at hreg hflags
  · rw [exec_lda hm] at he
    cases he
    exact ((ho.setA (hreg _ List.mem_cons_self) _).setZN hflags _).charge _ _ _ _
  · rw [exec_ldx hm] at he
    cases he
    exact ((ho.setX (hreg _ List.mem_cons_self) _).setZN hflags _).charge _ _ _ _
  · rw [exec_ldy hm] at he
    cases he
    exact ((ho.setY (hreg _ List.mem_cons_self) _).setZN hflags _).charge _ _ _ _
  · rw [exec_adc hm] at he
    cases he
    exact ((ho.setSumFlags hflags _).setA (hreg _ List.mem_cons_self) _).charge _ _ _ _
  · rw [exec_sbc hm] at he
    cases he
    exact ((ho.setSumFlags hflags _).setA (hreg _ List.mem_cons_self) _).charge _ _ _ _
  · rw [exec_and hm] at he
    cases he
    exact ((ho.setA (hreg _ List.mem_cons_self) _).setZN hflags _).charge _ _ _ _
  · rw [exec_ora hm] at he
    cases he
    exact ((ho.setA (hreg _ List.mem_cons_self) _).setZN hflags _).charge _ _ _ _
  · rw [exec_eor hm] at he
    cases he
    exact ((ho.setA (hreg _ List.mem_cons_self) _).setZN hflags _).charge _ _ _ _
  · rw [exec_bit hm] at he
    cases he
    exact (ho.setBitTestFlags hflags _).charge _ _ _ _
  · rw [exec_cmp hm] at he
    cases he
    exact (ho.setCompareFlags hflags _ _).charge _ _ _ _
  · rw [exec_cpx hm] at he
    cases he
    exact (ho.setCompareFlags hflags _ _).charge _ _ _ _
  · rw [exec_cpy hm] at he
    cases he
    exact (ho.setCompareFlags hflags _ _).charge _ _ _ _

/-- A store, an increment or a decrement: one write, at the effective address. -/
theorem execStore {i : Instr} {s t : State} (he : Machine.exec i s = .next t)
    (hi : i.mnemonic ∈ [Mnemonic.sta, .stx, .sty, .inc, .dec]) : (s.footprint i).Covers s t := by
  have hea : (s.locate i).ea ∈ (s.footprint i).stored := by
    rw [State.footprint, s.storedAt_of_store hi]
    exact List.mem_cons_self
  have hflags : ∀ f, f ∈ flagsAssigned i.mnemonic → f ∈ (s.footprint i).flags := fun _ h => h
  have hl := (refl (s.footprint i) s).locate i
  have hf := hl.read (s.locate i).ea
  simp only [List.mem_cons, List.not_mem_nil, or_false] at hi
  rcases hi with hm | hm | hm | hm | hm <;> rw [hm] at hflags
  · rw [exec_sta hm] at he
    cases he
    exact (hl.write hea _).charge _ _ _ _
  · rw [exec_stx hm] at he
    cases he
    exact (hl.write hea _).charge _ _ _ _
  · rw [exec_sty hm] at he
    cases he
    exact (hl.write hea _).charge _ _ _ _
  · rw [exec_inc hm] at he
    cases he
    exact ((hf.write hea _).setZN hflags _).charge _ _ _ _
  · rw [exec_dec hm] at he
    cases he
    exact ((hf.write hea _).setZN hflags _).charge _ _ _ _

/-- A shift or rotate: the accumulator, or one write at the effective address (R270). -/
theorem ofShift {i : Instr} {s t : State} {shift : Byte → Bool → Shifted} {base : Nat}
    (he : (if i.mode = .imp then shiftAccumulator shift s base else shiftMemory shift (s.locate i) base) = .next t)
    (hi : i.mnemonic ∈ [Mnemonic.asl, .lsr, .rol, .ror]) : (s.footprint i).Covers s t := by
  have hreg : i.mode = .imp → .a ∈ (s.footprint i).regs := fun hmode => by
    simp only [List.mem_cons, List.not_mem_nil, or_false] at hi
    rcases hi with hm | hm | hm | hm <;> simp [State.footprint, regsWritten, hm, hmode]
  have hflags : ∀ f ∈ [Flag.c, .z, .n], f ∈ (s.footprint i).flags := by
    simp only [List.mem_cons, List.not_mem_nil, or_false] at hi
    rcases hi with hm | hm | hm | hm <;> exact fun f hf => by rw [State.footprint, hm]; exact hf
  split at he <;> cases he
  · next hmode =>
    exact (((refl _ s).setShiftFlags hflags _).setA (hreg hmode) _).charge _ _ _ _
  · next hmode =>
    have hea : (s.locate i).ea ∈ (s.footprint i).stored := by
      rw [State.footprint, s.storedAt_of_shift hi hmode]
      exact List.mem_cons_self
    exact (((((refl _ s).locate i).read _).setShiftFlags hflags _).write hea _).charge _ _ _ _

/-- An instruction with its operand in memory in some format. -/
theorem execOperand {i : Instr} {s t : State} (he : Machine.exec i s = .next t)
    (hi : i.mnemonic ∈ memoryMnemonics) : (s.footprint i).Covers s t := by
  cases hm : i.mnemonic with
  | lda | ldx | ldy | adc | sbc | and | ora | eor | bit | cmp | cpx | cpy =>
    exact execRead he (by rw [hm]; decide)
  | sta | stx | sty | inc | dec => exact execStore he (by rw [hm]; decide)
  | asl => exact ofShift (exec_asl hm s ▸ he) (by rw [hm]; decide)
  | lsr => exact ofShift (exec_lsr hm s ▸ he) (by rw [hm]; decide)
  | rol => exact ofShift (exec_rol hm s ▸ he) (by rw [hm]; decide)
  | ror => exact ofShift (exec_ror hm s ▸ he) (by rw [hm]; decide)
  | _ =>
    rw [hm] at hi
    exact absurd hi (by decide)

/-- PLP and RTI assign all eight flags. -/
theorem mem_flagsAssigned_plp (f : Flag) : f ∈ flagsAssigned .plp := by
  cases f <;> decide

theorem execOther {i : Instr} {s t : State} (he : Machine.exec i s = .next t)
    (hi : i.mnemonic ∉ memoryMnemonics) (hr : i.mode ≠ .rel) (hj : i.mnemonic ≠ .jmp) :
    (s.footprint i).Covers s t := by
  have h := refl (s.footprint i) s
  cases i with
  | pha | php => cases he; exact (h.push List.mem_cons_self List.mem_cons_self _).charge _ _ _ _
  | jsr =>
    cases he
    exact ((h.pushWord List.mem_cons_self List.mem_cons_self (.tail _ List.mem_cons_self) _).setPc
      (.tail _ List.mem_cons_self) _).charge _ _ _ _
  | rts =>
    cases he
    exact ((h.pullWord List.mem_cons_self).setPc (.tail _ List.mem_cons_self) _).charge _ _ _ _
  | pla =>
    cases he
    exact (((h.pull (.tail _ List.mem_cons_self)).setA List.mem_cons_self _).setZN (fun _ h => h) _).charge _ _ _ _
  | plp =>
    cases he
    exact ((h.pull List.mem_cons_self).setP mem_flagsAssigned_plp _).charge _ _ _ _
  | brk =>
    cases he
    have hf := (h.setPc (.tail _ List.mem_cons_self) (s.cpu.pc + 1)).pushFrame List.mem_cons_self List.mem_cons_self
      (.tail _ List.mem_cons_self) (.tail _ (.tail _ List.mem_cons_self)) true
    exact (((hf.setFlag List.mem_cons_self true).readPair _ _).setPc (.tail _ List.mem_cons_self) _).charge _ _ _ _
  | rti =>
    cases he
    exact ((((h.pull List.mem_cons_self).setP mem_flagsAssigned_plp _).pullWord List.mem_cons_self).setPc
      (.tail _ List.mem_cons_self) _).charge _ _ _ _
  | clc | sec | cli | sei | clv | cld | sed => cases he; exact (h.setFlag List.mem_cons_self _).charge _ _ _ _
  | nop | ill _ => cases he; exact h.charge _ _ _ _
  | tax | tsx | inx | dex =>
    cases he
    exact ((h.setX List.mem_cons_self _).setZN (fun _ h => h) _).charge _ _ _ _
  | tay | iny | dey =>
    cases he
    exact ((h.setY List.mem_cons_self _).setZN (fun _ h => h) _).charge _ _ _ _
  | txa | tya =>
    cases he
    exact ((h.setA List.mem_cons_self _).setZN (fun _ h => h) _).charge _ _ _ _
  | txs => cases he; exact (h.setS List.mem_cons_self _).charge _ _ _ _
  | bcc | bcs | beq | bne | bpl | bmi | bvc | bvs => exact absurd rfl hr
  | jmpAbs | jmpInd => exact absurd rfl hj
  | _ =>
    simp only [Instr.mnemonic] at hi
    exact absurd (by decide) hi

/-- Branches and jumps write `PC` alone (R280, R289). -/
theorem pc_mem_of_branch {i : Instr} (h : i.mode = .rel ∨ i.mnemonic = .jmp) (s : State) :
    .pc ∈ (s.footprint i).regs := by
  cases i with
  | bcc | bcs | beq | bne | bpl | bmi | bvc | bvs | jmpAbs | jmpInd => exact List.mem_cons_self
  | _ => exact absurd h (by simp [Instr.mode, Instr.mnemonic])

/-- Every instruction writes inside its footprint only. -/
theorem exec {i : Instr} {s t : State} (he : Machine.exec i s = .next t) : (s.footprint i).Covers s t := by
  by_cases hi : i.mnemonic ∈ memoryMnemonics
  · exact execOperand he hi
  have h := refl (s.footprint i) s
  by_cases hr : i.mode = .rel
  · rw [exec_branch hr, branch] at he
    split at he <;> cases he
    · exact (h.setPc (pc_mem_of_branch (.inl hr) s) _).charge _ _ _ _
    · exact h.charge _ _ _ _
  by_cases hj : i.mnemonic = .jmp
  · rw [exec_jmp hj] at he
    cases he
    exact ((h.locate i).setPc (pc_mem_of_branch (.inr hj) s) _).charge _ _ _ _
  exact execOther he hi hr hj

end Footprint.Covers

/-- Settles O25: the memory part of the footprint. -/
theorem memoryFrame : Obligations.MemoryFrame := by
  intro i s t he
  obtain ⟨hnothing, hview, hram, hprg, hpicture, hframe⟩ := (Footprint.Covers.exec he).memory
  exact ⟨hnothing, hview, hram, hprg, hpicture, hframe⟩

end Sys2Proof.Machine
end

section
/-! The register table of R29, and from it bits 5 and 4 of `P` (R27). -/

namespace Sys2Proof.Machine

/-- `A` is written by the rows of R29 that name it, and by the accumulator forms of R270. -/
theorem mem_regsWritten_a {m : Mnemonic} {mode : Mode} (h : .a ∈ regsWritten m mode) :
    m ∈ [Mnemonic.lda, .pla, .txa, .tya, .adc, .sbc, .and, .ora, .eor] ∨
      (m ∈ [Mnemonic.asl, .lsr, .rol, .ror] ∧ mode = .imp) := by
  cases m with
  | lda | pla | txa | tya | adc | sbc | and | ora | eor => exact .inl (by decide)
  | asl | lsr | rol | ror =>
    refine .inr ⟨by decide, ?_⟩
    by_contra hmode
    simp [regsWritten, hmode] at h
  | _ => simp [regsWritten] at h

theorem mem_regsWritten_x {m : Mnemonic} {mode : Mode} (h : .x ∈ regsWritten m mode) :
    m ∈ [Mnemonic.ldx, .tax, .tsx, .inx, .dex] := by
  cases m with
  | ldx | tax | tsx | inx | dex => decide
  | _ => simp [regsWritten] at h

theorem mem_regsWritten_y {m : Mnemonic} {mode : Mode} (h : .y ∈ regsWritten m mode) :
    m ∈ [Mnemonic.ldy, .tay, .iny, .dey] := by
  cases m with
  | ldy | tay | iny | dey => decide
  | _ => simp [regsWritten] at h

theorem mem_regsWritten_s {m : Mnemonic} {mode : Mode} (h : .s ∈ regsWritten m mode) :
    m ∈ [Mnemonic.txs, .jsr, .rts, .pha, .php, .pla, .plp, .brk, .rti] := by
  cases m with
  | txs | jsr | rts | pha | php | pla | plp | brk | rti => decide
  | _ => simp [regsWritten] at h

theorem mem_regsWritten_pc {m : Mnemonic} {mode : Mode} (h : .pc ∈ regsWritten m mode) :
    m ∈ [Mnemonic.bcc, .bcs, .beq, .bne, .bpl, .bmi, .bvc, .bvs, .jmp, .jsr, .rts, .brk, .rti] := by
  cases m with
  | bcc | bcs | beq | bne | bpl | bmi | bvc | bvs | jmp | jsr | rts | brk | rti => decide
  | _ => simp [regsWritten] at h

/-- R27 in terms of the two flags. -/
theorem State.statusWf_iff (s : State) : s.statusWf = true ↔ s.flag .u = true ∧ s.flag .b = false := by
  simp only [State.statusWf, Bool.and_eq_true, Bool.not_eq_true']

/-- What PLP and RTI load has bit 5 set and bit 4 clear, whatever was pulled (R300). -/
theorem exec_statusWf_of_pull {i : Instr} {s t : State} (hi : i.mnemonic ∈ [Mnemonic.plp, .rti])
    (he : exec i s = .next t) : t.statusWf = true := by
  have hloaded : ∀ v, t.cpu.p = loadedP v → t.statusWf = true := fun v hv => by
    rw [State.statusWf_iff, State.flag, State.flag, hv, flagIn_loadedP, flagIn_loadedP]
    exact ⟨rfl, rfl⟩
  cases i with
  | plp => cases he; exact hloaded _ rfl
  | rti =>
    cases he
    exact hloaded _ (congrArg (fun u : State => u.cpu.p) s.returnFromInterrupt_eq)
  | _ =>
    simp only [Instr.mnemonic] at hi
    exact absurd hi (by decide)

/-- No row of R29 names bit 5 or bit 4 of `P`. -/
theorem unused_brk_notMem_flagsWritten (m : Mnemonic) : .u ∉ flagsWritten m ∧ .b ∉ flagsWritten m := by
  cases m <;> decide

/-- Outside PLP and RTI the flags an instruction assigns are those of its row. -/
theorem flagsAssigned_of_notMem {m : Mnemonic} (h : m ∉ [Mnemonic.plp, .rti]) : flagsAssigned m = flagsWritten m := by
  cases m with
  | plp | rti => exact absurd (by decide) h
  | _ => rfl

theorem mem_flagsAssigned {m : Mnemonic} {f : Flag} (h : f ∈ flagsAssigned m) :
    f = .b ∨ f = .u ∨ f ∈ flagsWritten m := by
  unfold flagsAssigned at h
  split at h
  · simpa [flagsWritten] using h
  · simpa [flagsWritten] using h
  · exact .inr (.inr h)

/-- Every instruction keeps R27. -/
theorem exec_statusWf {i : Instr} {s t : State} (hs : s.statusWf = true) (he : exec i s = .next t) :
    t.statusWf = true := by
  by_cases hi : i.mnemonic ∈ [Mnemonic.plp, .rti]
  · exact exec_statusWf_of_pull hi he
  · have hflags : FlagsKeptBut (flagsWritten i.mnemonic) s t := by
      rw [← flagsAssigned_of_notMem hi]
      exact (Footprint.Covers.exec he).flags
    obtain ⟨hu, hb⟩ := unused_brk_notMem_flagsWritten i.mnemonic
    rw [State.statusWf_iff, hflags _ hu, hflags _ hb, ← State.statusWf_iff]
    exact hs

/-- The flags of an instruction's row of R29; PLP and RTI leave bits 5 and 4 as R27 has them. -/
theorem exec_flagsKept {i : Instr} {s t : State} (he : exec i s = .next t)
    (hs : i.mnemonic ∈ [Mnemonic.plp, .rti] → s.statusWf = true) : FlagsKeptBut (flagsWritten i.mnemonic) s t := by
  have hflags := (Footprint.Covers.exec he).flags
  by_cases hi : i.mnemonic ∈ [Mnemonic.plp, .rti]
  · obtain ⟨hu, hb⟩ := s.statusWf_iff.1 (hs hi)
    obtain ⟨hu', hb'⟩ := t.statusWf_iff.1 (exec_statusWf_of_pull hi he)
    intro f hf
    by_cases hmem : f ∈ flagsAssigned i.mnemonic
    · obtain rfl | rfl | hrow := mem_flagsAssigned hmem
      · rw [hb, hb']
      · rw [hu, hu']
      · exact absurd hrow hf
    · exact hflags f hmem
  · rw [← flagsAssigned_of_notMem hi]
    exact hflags

/-- Settles O24: the register part of the footprint, and the frame of an interrupt entry. -/
theorem registerWriters : Obligations.RegisterWriters := by
  refine ⟨fun i s t he => ?_, fun s vector cost => ?_⟩
  · have h := Footprint.Covers.exec he
    exact ⟨fun ha hshift => h.a fun hmem => (mem_regsWritten_a hmem).elim ha hshift,
      fun hx => h.x fun hmem => hx (mem_regsWritten_x hmem), fun hy => h.y fun hmem => hy (mem_regsWritten_y hmem),
      fun hsp => h.sp fun hmem => hsp (mem_regsWritten_s hmem),
      fun hpc => h.pc fun hmem => hpc (mem_regsWritten_pc hmem), exec_flagsKept he⟩
  · obtain ⟨ha, hx, hy, -⟩ := s.enterInterrupt_frame vector cost
    have hflag := s.enterInterrupt_flag vector cost
    refine ⟨ha, hx, hy, hflag .i, hflag .b, fun f hf => ?_⟩
    simp only [List.mem_cons, List.not_mem_nil, or_false, not_or] at hf
    rw [hflag, if_neg hf.1, if_neg hf.2]

/-- A fetch moves `PC` only (R160). -/
theorem State.fetchBytes_p (n : Nat) (s : State) : (s.fetchBytes n).state.cpu.p = s.cpu.p := by
  induction n generalizing s with
  | zero => rfl
  | succ n ih =>
    calc (s.fetchBytes (n + 1)).state.cpu.p
        = s.fetchByte.state.cpu.p := ih s.fetchByte.state
      _ = s.cpu.p := by simp [State.fetchByte]

theorem State.fetchInstr_p (s : State) : s.fetchInstr.state.cpu.p = s.cpu.p :=
  (State.fetchBytes_p _ s.fetchByte.state).trans (State.fetchBytes_p 1 s)

/-- R27 speaks of `P` alone. -/
theorem State.statusWf_of_p {s t : State} (h : t.cpu.p = s.cpu.p) (hs : s.statusWf = true) : t.statusWf = true := by
  rw [State.statusWf_iff, State.flag_of_p h, State.flag_of_p h, ← State.statusWf_iff]
  exact hs

/-- Settles O58: `P` changes in a tick by an executed instruction or by the arbiter, and both keep R27. -/
theorem stepKeepsStatusBits : Obligations.StepKeepsStatusBits := by
  intro s t hs h
  obtain ⟨u, rfl, hu⟩ := step_cases h
  obtain ⟨hcpu, -⟩ := s.deviceClock_frame
  have hd : s.deviceClock.statusWf = true := State.statusWf_of_p (by rw [hcpu]) hs
  have hwf : u.statusWf = true := by
    rcases hu with ⟨-, rfl⟩ | ⟨-, -, rfl⟩ | ⟨-, -, hc⟩
    · exact hd
    · exact State.statusWf_of_p (by rw [s.deviceClock.dmaStep_frame.1]) hd
    · rcases State.cpuClock_cases hc with ⟨-, v, hv, rfl⟩ | ⟨-, rfl⟩
      · have hfetch := State.statusWf_of_p s.deviceClock.fetchInstr_p hd
        exact State.statusWf_of_p (s := v) rfl (exec_statusWf hfetch hv)
      · exact hd
  have ha := u.arbiter_interruptStep
  obtain ⟨hunused, hbrk⟩ := u.statusWf_iff.1 hwf
  exact u.arbiter.statusWf_iff.2 ⟨ha.unused.trans hunused, ha.brk hbrk⟩

end Sys2Proof.Machine
end

section
/-! The reset: what it sets and keeps (R52, R540, R600), and that the reset state meets the invariant. -/

namespace Sys2Proof.Machine

/-- Both mappers show PRG ROM from 0x8000 (R522, R531). -/
theorem Cartridge.cpuRead_rom (c : Cartridge) {a : Word} (h : 0x8000 ≤ a) :
    c.cpuRead a = some (c.prg.read (c.prgIndex a)) := by
  have hram : inPrgRam a = false := by
    have : ¬a ≤ (0x7FFF : Word) := by bv_omega
    simp only [inPrgRam, this, decide_false, Bool.and_false]
  unfold Cartridge.cpuRead
  split
  · exact if_pos h
  · rw [if_neg (by simp [hram]), if_pos h]

/-- A vector in PRG ROM is what the cartridge shows there. -/
theorem State.loadVector_eq (s : State) {a : Word} {lo hi : Byte} (hlo : s.cart.cpuRead a = some lo)
    (hhi : s.cart.cpuRead (a + 1) = some hi) : s.loadVector a = s.setPc (wordOf lo hi) := by
  have read : ∀ b v, s.cart.cpuRead b = some v → s.memRead b = { value := v, state := s } :=
    fun b v h => State.memRead_of_peek (by simp only [State.peek, h])
  simp only [State.loadVector, State.read16, State.readPair, read _ _ hlo, read _ _ hhi]

/-- Mapper0 has nothing to reset but the request line (R528). -/
theorem Cartridge.reset_mapper0 {c : Cartridge} (h : c.mapper = .mapper0) :
    c.reset = { c with irqState := false } := by
  rw [Cartridge.reset, h]

/-- Mapper1 keeps its PRG-RAM (R540). -/
theorem Cartridge.reset_mapper1 {c : Cartridge} {r : Mapper1} (h : c.mapper = .mapper1 r) :
    c.reset = { c with irqState := false, mapper := .mapper1 r.reset } := by
  rw [Cartridge.reset, h]

/-- Settles O55: the reset's vector is read from PRG ROM without a side effect, and every other field is set or kept
by `hostReset` as it stands. -/
theorem resetValues : Obligations.ResetValues := by
  intro s
  have hlo := s.cart.reset.cpuRead_rom (a := 0xFFFC) (by decide)
  have hhi := s.cart.reset.cpuRead_rom (a := 0xFFFD) (by decide)
  have hvector := State.loadVector_eq (s := (s.setCart s.cart.reset).resetRegisters) hlo hhi
  refine ⟨hostReset s, _, _, rfl, hlo, hhi, ?_⟩
  unfold hostReset
  rw [hvector]
  refine ⟨rfl, rfl, rfl, rfl, rfl, rfl, ?_, rfl, rfl, ?_, ?_, rfl, rfl, rfl⟩
  · rintro env pulse rfl rfl
    rfl
  · exact Cartridge.reset_mapper0
  · exact fun r => Cartridge.reset_mapper1

/-- Settles O60: the reset state is one concrete machine, and each part of the invariant is evaluated there. -/
theorem resetMeetsInvariant : Obligations.ResetMeetsInvariant where
  memories := State.reset_memoriesWf
  status := by decide
  counters := by decide
  units := by decide
  frame := by decide

end Sys2Proof.Machine
end

section
/-! The bus (R84 to R91): the mirrors of RAM, the open-bus latch, and what a read can change. -/

namespace Sys2Proof.Machine

/-- A read after a write (R86). -/
theorem Memory.read_write {size : Nat} {m : Memory} (h : m.wf size = true) (a b : Nat) (v : Byte) :
    (m.write a v).read b = if a = b then v else m.read b := by
  split
  · next e => rw [← e, Memory.read_write_same v h]
  · next e => exact Memory.read_write_other m v (Ne.symm e)

/-- Settles O27: the four mirrors of a RAM byte have one index into `ram` (R86). -/
theorem ramMirrors : Obligations.RamMirrors := by
  intro s a b v hwf ha hb
  rw [s.memWrite_ram v ha, s.memRead_ram hb, State.memRead_ram _ hb, ← ramIndex_toNat, ← ramIndex_toNat]
  exact ⟨Memory.read_write hwf _ _ v, rfl, fun k hk => Memory.read_write_other _ v hk⟩

/-- Mapper0 claims no address below PRG ROM (R522). -/
theorem Cartridge.cpuRead_mapper0 {c : Cartridge} (h : c.mapper = .mapper0) {a : Word} (ha : a ≤ 0x7FFF) :
    c.cpuRead a = none := by
  have : ¬(0x8000 : Word) ≤ a := by bv_omega
  simp only [Cartridge.cpuRead, h, this, if_false]

/-- A read that neither the cartridge nor a device answers gives the open-bus latch (R84, R90). -/
theorem State.memRead_unclaimed (s : State) {a : Word} (hcart : s.cart.cpuRead a = none)
    (ha : a = 0x4014 ∨ 0x4018 ≤ a) : s.memRead a = { value := s.openBus, state := s } := by
  simp only [State.memRead, hcart]
  rw [if_neg, if_neg, if_neg, if_neg, if_neg, if_neg] <;> bv_omega

/-- Settles O28: every write sets the latch (R85), no read does, and an unclaimed read shows it. -/
theorem openBus : Obligations.OpenBus := by
  intro s a b v
  obtain ⟨-, hlatch, -⟩ := s.memWrite_frame a v
  refine ⟨hlatch, s.memRead_openBus a, fun hb => ?_⟩
  have hcart : (s.memWrite a v).cart.cpuRead b = none := by
    obtain rfl | ⟨-, h⟩ | ⟨-, h, hmapper⟩ := hb
    · exact Cartridge.cpuRead_low _ (by decide)
    · exact Cartridge.cpuRead_low _ (by bv_omega)
    · exact Cartridge.cpuRead_mapper0 hmapper h
  rw [State.memRead_unclaimed _ hcart (by bv_omega), hlatch]

/-- `t` is `s` after some bus reads: the free bytes drawn, the controller shifters, and of the picture unit the
latches that registers 2 and 7 touch (R91). -/
def State.ReadFrom (s t : State) : Prop :=
  ∃ n c0 c1 b l d w, t =
    { s with draws := n, ctrlShift0 := c0, ctrlShift1 := c1,
             ppu := { s.ppu with vblank := b, addrLatch := l, dataBuffer := d, vram := w } }

theorem State.ReadFrom.refl (s : State) : s.ReadFrom s := ⟨_, _, _, _, _, _, _, rfl⟩

theorem State.ReadFrom.memRead {s t : State} (h : s.ReadFrom t) (a : Word) : s.ReadFrom (t.memRead a).state := by
  obtain ⟨_, _, _, _, _, _, _, rfl⟩ := h
  obtain ⟨_, _, _, _, h, _, _, _, _, rfl⟩ := State.memRead_frame _ a
  rw [h]
  exact ⟨_, _, _, _, _, _, _, rfl⟩

/-- Any number of bus reads stays within what one can change. -/
theorem State.ReadFrom.reads {s t : State} (h : s.ReadFrom t) (between : List Word) :
    s.ReadFrom (between.foldl (fun u b => (u.memRead b).state) t) := by
  induction between generalizing t with
  | nil => exact h
  | cons b rest ih => exact ih (h.memRead b)

/-- The addresses whose reads have an effect on a device: PPU registers 2 and 7 at every mirror, and the two
controller ports (R367, R385, R389). -/
def ReadsDevice (a : Word) : Prop :=
  (0x2000 ≤ a ∧ a ≤ 0x3FFF ∧ (a.toNat % 8 = 2 ∨ a.toNat % 8 = 7)) ∨ a = 0x4016 ∨ a = 0x4017

/-- The addresses of the audio unit, whose reads draw a free byte (U3, U7). -/
def DrawsByte (a : Word) : Prop := a = 0x4015 ∨ (0x4000 ≤ a ∧ a ≤ 0x4013)

/-- A read in the audio unit's range counts a free byte and does nothing else (R84, R466). -/
theorem State.memRead_drawsByte (s : State) {a : Word} (h : DrawsByte a) :
    (s.memRead a).state = s.setDraws (s.draws + 1) := by
  obtain rfl | ⟨hge, hle⟩ := h
  · simp only [State.memRead, s.cart.cpuRead_low (show (0x4015 : Word) < 0x6000 by decide)]
    rfl
  · simp only [State.memRead, s.cart.cpuRead_low (show a < 0x6000 by bv_omega)]
    rw [if_neg (by bv_omega), if_neg (by bv_omega), if_neg (by bv_omega), if_pos hle]
    rfl

/-- Everywhere else a read changes nothing, and what it gives does not depend on the reads before it (R91). -/
theorem State.ReadFrom.memRead_quiet {s t : State} (h : s.ReadFrom t) {a : Word} (hdevice : ¬ReadsDevice a)
    (hdraw : ¬DrawsByte a) : t.memRead a = { value := (s.memRead a).value, state := t } := by
  obtain ⟨n, c0, c1, b, l, d, w, rfl⟩ := h
  unfold ReadsDevice at hdevice
  unfold DrawsByte at hdraw
  simp only [State.memRead]
  split -- what the cartridge claims
  · rfl
  split -- RAM
  · rfl
  next hram =>
  split -- the PPU's registers
  · next hppu =>
    have hge : (0x2000 : Word) ≤ a := by bv_omega
    simp only [and_seven_toNat, State.ppuRegRead]
    split
    · next h2 => exact absurd (.inl ⟨hge, hppu, .inl h2⟩) hdevice
    · rfl
    · next h7 => exact absurd (.inl ⟨hge, hppu, .inr h7⟩) hdevice
    · rfl
  next hppu =>
  have hge : (0x4000 : Word) ≤ a := by bv_omega
  obtain ⟨-, hport0, hport1⟩ := (not_or.trans (and_congr_right' not_or)).mp hdevice
  obtain ⟨hstatus, hfree⟩ := not_or.mp hdraw
  have hfree : ¬a ≤ 0x4013 := fun e => hfree ⟨hge, e⟩
  simp only [hport0, hport1, hstatus, hfree, if_false]

/-- Settles O29: a read of a device keeps to `ReadFrom`, a read of the audio unit counts a byte, and any other read
is quiet. -/
theorem readSideEffects : Obligations.ReadSideEffects := by
  intro s a
  refine ⟨fun hppu hport0 hport1 => ?_, (State.ReadFrom.refl s).memRead a⟩
  have hdevice : ¬ReadsDevice a := not_or.mpr ⟨hppu, not_or.mpr ⟨hport0, hport1⟩⟩
  have quiet (hdraw : ¬DrawsByte a) {t : State} (h : s.ReadFrom t) := h.memRead_quiet hdevice hdraw
  refine ⟨?_, fun hstatus hfree => ?_⟩
  · by_cases hdraw : DrawsByte a
    · exact ⟨_, s.memRead_drawsByte hdraw⟩
    · exact ⟨s.draws, by rw [quiet hdraw (.refl s)]; rfl⟩
  · have hdraw : ¬DrawsByte a := not_or.mpr ⟨hstatus, hfree⟩
    refine ⟨by rw [quiet hdraw (.refl s)], fun between => ?_⟩
    rw [quiet hdraw ((State.ReadFrom.refl s).reads between)]

end Sys2Proof.Machine
end

section
/-! The picture unit's address space (R110 to R114): the palette's aliases and the nametables' mirrors. -/

namespace Sys2Proof.Machine

/-- `PalIndex` in numbers (R112). -/
theorem palIndex_eq (a : PpuAddr) :
    palIndex a = if a.toNat % 32 ∈ [16, 20, 24, 28] then a.toNat % 32 - 16 else a.toNat % 32 := by
  have hmod : a.toNat % 32 = (a &&& 0x1F).toNat := by
    rw [BitVec.toNat_and, show (0x1F : PpuAddr).toNat = 2 ^ 5 - 1 from rfl, Nat.and_two_pow_sub_one_eq_mod]
  rw [palIndex, hmod]
  generalize a &&& 0x1F = i
  split
  · next h => obtain rfl | rfl | rfl | rfl := h <;> rfl
  · next h =>
    rw [if_neg]
    simp only [List.mem_cons, List.not_mem_nil, or_false]
    bv_omega

/-- From 0x3F00 a read is a palette read (R110). -/
theorem State.ppuRead_palette (s : State) {a : PpuAddr} (h : 0x3F00 ≤ a) : s.ppuRead a = s.ppu.palRead a :=
  if_pos h

/-- From 0x3F00 a write is a palette write (R111). -/
theorem State.ppuWrite_palette (s : State) {a : PpuAddr} (v : Byte) (h : 0x3F00 ≤ a) :
    s.ppuWrite a v = s.setPpu { s.ppu with pal := s.ppu.pal.write (palIndex a) v } :=
  if_pos h

/-- Settles O45: two palette addresses reach the same byte where `PalIndex` agrees. -/
theorem paletteAliases : Obligations.PaletteAliases := by
  intro s a b v hwf ha hb
  refine ⟨palIndex_eq a, s.ppuWrite_palette v ha, ?_⟩
  rw [s.ppuWrite_palette v ha, State.ppuRead_palette _ hb, s.ppuRead_palette hb]
  have hread : ((s.ppu.pal.write (palIndex a) v).read (palIndex b)) = _ := Memory.read_write hwf _ _ v
  simp only [Ppu.palRead, Ppu.grayscale, State.setPpu_ppu, hread]
  exact apply_ite (· &&& _) _ _ _

/-- Pattern memory ends below the nametables (R521). -/
theorem Cartridge.ppuRead_nametable (c : Cartridge) {a : PpuAddr} (h : 0x2000 ≤ a) : c.ppuRead a = none :=
  if_pos (by bv_omega)

theorem Cartridge.ppuWrite_nametable (c : Cartridge) {a : PpuAddr} (v : Byte) (h : 0x2000 ≤ a) :
    c.ppuWrite a v = none :=
  if_pos (by bv_omega)

/-- From 0x2000 to 0x3EFF a read is a nametable read (R110). -/
theorem State.ppuRead_nametable (s : State) {a : PpuAddr} (h1 : 0x2000 ≤ a) (h2 : a ≤ 0x3EFF) :
    s.ppuRead a = s.ppu.ntRead s.cart.layout a := by
  rw [State.ppuRead, if_neg (by bv_omega), s.cart.ppuRead_nametable h1]
  exact if_pos h1

/-- From 0x2000 to 0x3EFF a write is a nametable write (R111). -/
theorem State.ppuWrite_nametable (s : State) {a : PpuAddr} (v : Byte) (h1 : 0x2000 ≤ a) (h2 : a ≤ 0x3EFF) :
    s.ppuWrite a v = s.setPpu (s.ppu.ntWrite s.cart.layout a v) := by
  rw [State.ppuWrite, if_neg (by bv_omega), s.cart.ppuWrite_nametable v h1]
  exact if_pos h1

/-- A bit of an address in numbers. -/
theorem getLsbD_toNat (a : PpuAddr) (i : Nat) : (a.getLsbD i).toNat = a.toNat / 2 ^ i % 2 := by
  rw [BitVec.getLsbD, Nat.toNat_testBit]

/-- `NtTable` in numbers (R114). -/
theorem ntTableNumber_eq (l : Layout) (a : PpuAddr) : ntTableNumber l a = (ntTable l a).toNat := by
  cases l with
  | vertical =>
    simp only [ntTableNumber, ntTable, getLsbD_toNat]
    omega
  | horizontal =>
    simp only [ntTableNumber, ntTable, getLsbD_toNat]
    omega
  | oneScreenLow => rfl
  | oneScreenHigh => rfl

/-- The number of a table tells which table it is. -/
theorem ntTableNumber_inj (l : Layout) (a b : PpuAddr) :
    ntTableNumber l a = ntTableNumber l b ↔ ntTable l a = ntTable l b := by
  rw [ntTableNumber_eq, ntTableNumber_eq]
  cases ntTable l a <;> cases ntTable l b <;> decide

/-- Two nametable addresses reach the same byte where table and offset agree (R114). -/
theorem Ppu.ntRead_ntWrite {p : Ppu} (h0 : p.nt0.wf 1024 = true) (h1 : p.nt1.wf 1024 = true) (l : Layout)
    (a b : PpuAddr) (v : Byte) :
    (p.ntWrite l a v).ntRead l b = if ntTable l a = ntTable l b ∧ ntIndex a = ntIndex b then v else p.ntRead l b := by
  unfold Ppu.ntWrite Ppu.ntRead
  cases ntTable l a <;> cases ntTable l b <;> simp [Memory.read_write h0, Memory.read_write h1]

/-- The mirroring mode of Mapper1 in numbers (R526, R534). -/
theorem Cartridge.layout_mapper1 {c : Cartridge} {r : Mapper1} (h : c.mapper = .mapper1 r) :
    c.layout =
      if r.control.toNat % 4 = 0 then .oneScreenLow
      else if r.control.toNat % 4 = 1 then .oneScreenHigh
      else if r.control.toNat % 4 = 2 then .vertical
      else .horizontal := by
  have hbits : (r.control.extractLsb' 0 2).toNat = r.control.toNat % 4 := by simp [BitVec.extractLsb'_toNat]
  have hlt : r.control.toNat % 4 < 4 := Nat.mod_lt _ (by decide)
  simp only [Cartridge.layout, h, Mapper.mirrorMode, hbits]
  generalize r.control.toNat % 4 = n at hlt
  interval_cases n <;> rfl

/-- The mirroring mode of Mapper0 is the hint (R526). -/
theorem Cartridge.layout_mapper0 {c : Cartridge} (h : c.mapper = .mapper0) :
    c.layout = if c.hint = .vertical then .vertical else .horizontal := by
  simp only [Cartridge.layout, h, Mapper.mirrorMode]
  cases c.hint <;> rfl

/-- Settles O46: a nametable write stores one byte of one table, and the layout does not change with it. -/
theorem nametableMirroring : Obligations.NametableMirroring := by
  refine ⟨fun s a b v hwf ha1 ha2 hb1 hb2 => ?_, fun s a v h1 h2 => ?_, fun c =>
    ⟨Cartridge.layout_mapper0, fun r => Cartridge.layout_mapper1⟩⟩
  · obtain ⟨-, h0, h1, -⟩ := s.memoriesWf_iff.mp hwf
    rw [s.ppuWrite_nametable v ha1 ha2, State.ppuRead_nametable _ hb1 hb2, s.ppuRead_nametable hb1 hb2]
    refine (Ppu.ntRead_ntWrite h0 h1 s.cart.layout a b v).trans ?_
    simp only [ntTableNumber_inj, ntIndex_eq]
  · rw [s.ppuWrite_nametable v h1 h2, Ppu.ntWrite, ntTableNumber_eq, ntIndex_eq]
    cases ntTable s.cart.layout a <;> rfl

end Sys2Proof.Machine
end

section
/-! The picture unit's registers 2, 6 and 7 (R385 to R391), at every mirror (R87): what the two reads give and
change, what a write to the data port stores, and how `vram` moves. -/

namespace Sys2Proof.Machine

/-- How far the data port moves `vram` (R383, R391). -/
def Ppu.dataStep (p : Ppu) : Nat := if p.control.getLsbD 2 then 32 else 1

/-- The address that register 7 uses, in numbers (R381). -/
theorem Ppu.dataAddr_eq {p : Ppu} {d : PpuAddr} (h : d.toNat = p.vram.toNat % 0x4000) : p.dataAddr = d :=
  BitVec.eq_of_toNat_eq (by rw [h, Ppu.dataAddr, BitVec.toNat_setWidth])

/-- `VramIncrement` in numbers (R391). -/
theorem Ppu.vramIncrement_toNat (p : Ppu) :
    p.vramIncrement.vram.toNat = (p.vram.toNat + p.dataStep) % 0x8000 := by
  change (p.vram + if p.control.getLsbD 2 then 32 else 1).toNat = _
  rw [BitVec.toNat_add, apply_ite BitVec.toNat]
  rfl

/-- A read of register 7 advances `vram` (R389). -/
theorem State.dataRead_vram_toNat (s : State) :
    s.dataRead.state.ppu.vram.toNat = (s.ppu.vram.toNat + s.ppu.dataStep) % 0x8000 :=
  s.ppu.vramIncrement_toNat

/-- A write to register 7 stores at `vram`, then advances `vram` from where it was (R390). -/
theorem State.dataWrite_eq (s : State) (v : Byte) :
    ∃ next : BitVec 15, next.toNat = (s.ppu.vram.toNat + s.ppu.dataStep) % 0x8000 ∧
      s.dataWrite v = (s.ppuWrite s.ppu.dataAddr v).setPpu
        { (s.ppuWrite s.ppu.dataAddr v).ppu with vram := next } := by
  refine ⟨s.ppu.vramIncrement.vram, s.ppu.vramIncrement_toNat, ?_⟩
  obtain ⟨_, _, _, _, h⟩ := s.ppuWrite_frame s.ppu.dataAddr v
  rw [State.dataWrite, h]
  rfl

/-- A write to the data port, at every mirror (R87, R382). -/
theorem State.memWrite_dataPort (s : State) {a : Word} (v : Byte) (h1 : 0x2000 ≤ a) (h2 : a ≤ 0x3FFF)
    (h7 : a.toNat % 8 = 7) : s.memWrite a v = (s.noteWrite v).dataWrite v := by
  rw [s.memWrite_ppuWindow v h1 h2, h7]
  rfl

/-- A read of the data port, at every mirror (R87, R382). -/
theorem State.memRead_dataPort (s : State) {a : Word} (h1 : 0x2000 ≤ a) (h2 : a ≤ 0x3FFF)
    (h7 : a.toNat % 8 = 7) : s.memRead a = s.dataRead := by
  rw [s.memRead_ppuWindow h1 h2, h7]
  rfl

/-- A read of the status register, at every mirror (R87, R382). -/
theorem State.memRead_statusRegister (s : State) {a : Word} (h1 : 0x2000 ≤ a) (h2 : a ≤ 0x3FFF)
    (hr : a.toNat % 8 = 2) : s.memRead a = s.statusRead := by
  rw [s.memRead_ppuWindow h1 h2, hr]
  rfl

/-- A write to the address register, at every mirror (R87, R382). -/
theorem State.memWrite_addressRegister (s : State) {a : Word} (v : Byte) (h1 : 0x2000 ≤ a) (h2 : a ≤ 0x3FFF)
    (h6 : a.toNat % 8 = 6) : s.memWrite a v = (s.noteWrite v).setPpu (s.ppu.addressWrite v) := by
  rw [s.memWrite_ppuWindow v h1 h2, h6]
  rfl

/-- A write to the data port moves `vram` and keeps its step. -/
theorem State.memWrite_dataPort_vram (s : State) {a : Word} (v : Byte) (h1 : 0x2000 ≤ a) (h2 : a ≤ 0x3FFF)
    (h7 : a.toNat % 8 = 7) :
    (s.memWrite a v).ppu.vram.toNat = (s.ppu.vram.toNat + s.ppu.dataStep) % 0x8000 ∧
      (s.memWrite a v).ppu.dataStep = s.ppu.dataStep := by
  obtain ⟨next, hnext, h⟩ := (s.noteWrite v).dataWrite_eq v
  obtain ⟨_, _, _, _, hframe⟩ := (s.noteWrite v).ppuWrite_frame (s.noteWrite v).ppu.dataAddr v
  rw [s.memWrite_dataPort v h1 h2 h7, h, hframe]
  exact ⟨hnext, rfl⟩

/-- `N` writes to the data port advance `vram` `N` times (R390, R391). -/
theorem State.memWrites_dataPort_vram (s : State) (ws : List (Word × Byte))
    (h : ∀ w ∈ ws, 0x2000 ≤ w.1 ∧ w.1 ≤ 0x3FFF ∧ w.1.toNat % 8 = 7) :
    (ws.foldl (fun t w => t.memWrite w.1 w.2) s).ppu.vram.toNat =
      (s.ppu.vram.toNat + ws.length * s.ppu.dataStep) % 0x8000 := by
  induction ws generalizing s with
  | nil =>
    have := s.ppu.vram.isLt
    simp only [List.foldl_nil, List.length_nil]
    omega
  | cons w rest ih =>
    obtain ⟨h1, h2, h7⟩ := h w List.mem_cons_self
    obtain ⟨hvram, hstep⟩ := s.memWrite_dataPort_vram w.2 h1 h2 h7
    rw [List.foldl_cons, ih _ fun x hx => h x (List.mem_cons_of_mem w hx), hvram, hstep,
      List.length_cons, Nat.mod_add_mod]
    congr 1
    ring

/-- A bit of a word is a bit of one of its two bytes. -/
theorem getElem_wordOf (lo hi : Byte) {i : Nat} (h : i < 16) :
    (wordOf lo hi)[i] = if i < 8 then lo.getLsbD i else hi.getLsbD (i - 8) := by
  rw [← BitVec.getLsbD_eq_getElem, wordOf, BitVec.getLsbD_append]

/-- Register 6 written twice puts the 14-bit address into `vram` (R388). -/
theorem Ppu.addressWrite_twice {p : Ppu} (hlatch : p.addrLatch = false) (hi lo : Byte) :
    ((p.addressWrite hi).addressWrite lo).vram.toNat = hi.toNat % 64 * 256 + lo.toNat ∧
      ((p.addressWrite hi).addressWrite lo).dataStep = p.dataStep := by
  have hbits : (((hi &&& 0x3F).setWidth 15 <<< 8 ||| (p.tram &&& 0x00FF)) &&& 0x7F00) ||| lo.setWidth 15 =
      (wordOf lo (hi &&& 0x3F)).setWidth 15 := by
    refine BitVec.eq_of_getLsbD_eq fun i hlt => ?_
    interval_cases i <;> simp [getElem_wordOf]
  have hlow : (hi &&& 0x3F).toNat = hi.toNat % 64 := by
    rw [BitVec.toNat_and, show (0x3F : Byte).toNat = 2 ^ 6 - 1 from rfl, Nat.and_two_pow_sub_one_eq_mod]
  have hlo := lo.isLt
  simp only [Ppu.addressWrite, hlatch, if_true, if_false, Bool.false_eq_true, hbits, BitVec.toNat_setWidth,
    wordOf_toNat, hlow]
  exact ⟨Nat.mod_eq_of_lt (by omega), rfl⟩

/-- Settles O43: each write to the data port is a step of `vram`, counted by induction over the writes. -/
theorem dataPortAdvances : Obligations.DataPortAdvances := by
  refine ⟨fun s a v d h1 h2 h7 hd => ?_, fun s hi lo a b ws hlatch ha1 ha2 ha6 hb1 hb2 hb6 hws => ?_,
    fun s a h1 h2 h7 => ?_⟩
  · obtain ⟨next, hnext, h⟩ := (s.noteWrite v).dataWrite_eq v
    refine ⟨_, next, rfl, hnext, ?_⟩
    rw [s.memWrite_dataPort v h1 h2 h7, h, Ppu.dataAddr_eq (p := (s.noteWrite v).ppu) hd]
  · obtain ⟨hvram, hstep⟩ := Ppu.addressWrite_twice hlatch hi lo
    rw [State.memWrites_dataPort_vram _ ws hws, State.memWrite_addressRegister _ lo hb1 hb2 hb6,
      s.memWrite_addressRegister hi ha1 ha2 ha6]
    simp only [State.setPpu_ppu, hvram, hstep]
    rfl
  · rw [s.memRead_dataPort h1 h2 h7]
    exact s.dataRead_vram_toNat

theorem getLsbD_bitAt (i j : Nat) (b : Bool) :
    (bitAt i b).getLsbD j = (b && decide (j < 8) && decide (i = j)) := by
  cases b with
  | false => simp [bitAt]
  | true =>
    simp only [bitAt, if_true, BitVec.getLsbD_shiftLeft, BitVec.getLsbD_one]
    grind

/-- The three named bits of a status read stand above the free ones (R385). -/
theorem State.statusRead_bits (s : State) :
    s.statusRead.value.getLsbD 7 = s.ppu.vblank ∧ s.statusRead.value.getLsbD 6 = s.ppu.sprite0 ∧
      s.statusRead.value.getLsbD 5 = s.ppu.overflow := by
  simp [State.statusRead, Ppu.statusBits, getLsbD_bitAt, -BitVec.getLsbD_eq_getElem]

/-- Settles O44: the reads of registers 2 and 7, each with its whole next state. -/
theorem statusAndDataReads : Obligations.StatusAndDataReads := by
  intro s a h1 h2
  refine ⟨fun hr => ?_, fun hr d hd => ?_⟩
  · rw [s.memRead_statusRegister h1 h2 hr]
    obtain ⟨hvblank, hsprite, hoverflow⟩ := s.statusRead_bits
    exact ⟨hvblank, hsprite, hoverflow, _, rfl⟩
  · obtain rfl := Ppu.dataAddr_eq hd
    rw [s.memRead_dataPort h1 h2 hr]
    exact ⟨_, s.dataRead_vram_toNat, rfl⟩

end Sys2Proof.Machine
end

section
/-! The pixel of a clock step (R395, R425): which shifter bits select it, and where it goes. -/

namespace Sys2Proof.Machine

/-- The palette address that the shifters give at bit `k`, in numbers; the backdrop while the background is off
(R425, D23). -/
def Ppu.pixelNumber (p : Ppu) (k : Nat) : Nat :=
  0x3F00 + 8 * (p.showBg && p.shAttHi.getLsbD k).toNat + 4 * (p.showBg && p.shAttLo.getLsbD k).toNat +
    2 * (p.showBg && p.shPatHi.getLsbD k).toNat + (p.showBg && p.shPatLo.getLsbD k).toNat

/-- The pixel's address is read at the bit that `fine_x` selects (R425). -/
theorem Ppu.pixelAddr_toNat (p : Ppu) : p.pixelAddr.toNat = p.pixelNumber (15 - p.fineX.toNat) := by
  simp only [Ppu.pixelAddr, Ppu.pixelNumber]
  generalize (p.showBg && p.shAttHi.getLsbD (15 - p.fineX.toNat)) = b3
  generalize (p.showBg && p.shAttLo.getLsbD (15 - p.fineX.toNat)) = b2
  generalize (p.showBg && p.shPatHi.getLsbD (15 - p.fineX.toNat)) = b1
  generalize (p.showBg && p.shPatLo.getLsbD (15 - p.fineX.toNat)) = b0
  revert b3 b2 b1 b0
  decide

/-- A shift moves every bit up by one (R400). -/
theorem Ppu.shiftBg_pixelNumber (p : Ppu) {k : Nat} (h0 : 0 < k) (h16 : k < 16) :
    p.shiftBg.pixelNumber k = p.pixelNumber (k - 1) := by
  have shifted (x : BitVec 16) : (x <<< 1).getLsbD k = x.getLsbD (k - 1) := by
    rw [BitVec.getLsbD_shiftLeft, decide_eq_true h16, decide_eq_false (by omega : ¬k < 1)]
    rfl
  unfold Ppu.shiftBg
  split
  · simp only [Ppu.pixelNumber, shifted]
    rfl
  · next h => simp only [Ppu.pixelNumber, Bool.eq_false_of_not_eq_true h, Bool.false_and]

/-- A reload stays below the bits that a pixel is read from (R401). -/
theorem getLsbD_reloadLow (x : BitVec 16) (low : Byte) {k : Nat} (h8 : 8 ≤ k) (h16 : k < 16) :
    (reloadLow x low).getLsbD k = x.getLsbD k := by
  interval_cases k <;> simp [reloadLow]

theorem Ppu.loadShifters_pixelAddr (p : Ppu) : p.loadShifters.pixelAddr = p.pixelAddr := by
  have hx := p.fineX.isLt
  have kept (x : BitVec 16) (low : Byte) :
      (reloadLow x low).getLsbD (15 - p.fineX.toNat) = x.getLsbD (15 - p.fineX.toNat) :=
    getLsbD_reloadLow x low (by omega) (by omega)
  unfold Ppu.loadShifters
  split
  · simp only [Ppu.pixelAddr, kept]
    rfl
  · rfl

theorem Ppu.incX_pixelAddr (p : Ppu) : p.incX.pixelAddr = p.pixelAddr := by
  unfold Ppu.incX
  split
  · split <;> rfl
  · rfl

theorem Ppu.incY_pixelAddr (p : Ppu) : p.incY.pixelAddr = p.pixelAddr := by
  simp only [Ppu.incY]
  repeat' split
  all_goals rfl

/-- The fetches and reloads of a cycle keep the pixel that its shift has selected. -/
theorem State.subStep_pixelAddr (s : State) : s.subStep.ppu.pixelAddr = s.ppu.pixelAddr := by
  unfold State.subStep
  split
  · exact s.ppu.loadShifters_pixelAddr
  · rfl
  · rfl
  · rfl
  · exact s.ppu.incX_pixelAddr
  · rfl

/-- On the cycles of a visible line that emit a pixel, the work of R395 is a shift with its fetch from cycle 2 on,
and the vertical step at 256. -/
theorem State.scanlineWork_visible (s : State) (hline : 0 ≤ s.ppu.scanline) (h1 : 1 ≤ s.ppu.cycle)
    (h256 : s.ppu.cycle ≤ 256) :
    s.scanlineWork =
      (s.onlyIf (decide (2 ≤ s.ppu.cycle)) fun s => (s.onPpu Ppu.shiftBg).subStep).onlyIf (s.ppu.cycle == 256)
        (·.onPpu Ppu.incY) := by
  have hpre : decide (s.ppu.scanline = -1) = false := decide_eq_false (by omega)
  have hwindow : inFetchWindow s.ppu.cycle = decide (2 ≤ s.ppu.cycle) := by
    have h257 : s.ppu.cycle ≤ 257 := by omega
    have h321 : ¬321 ≤ s.ppu.cycle := by omega
    simp only [inFetchWindow, h257, h321, decide_true, decide_false, Bool.and_true, Bool.false_and, Bool.or_false]
  have hreload : (s.ppu.cycle == 257) = false := by simp; omega
  have hfetch : (s.ppu.cycle == 338 || s.ppu.cycle == 340) = false := by simp; omega
  simp only [State.scanlineWork, hpre, hwindow, hreload, hfetch, Bool.false_and, State.onlyIf_false]

/-- The shifter bits that a visible cycle's pixel is read from: the shift of cycles 2 to 256 comes first (R395). -/
theorem State.scanlineWork_pixelAddr (s : State) (hline : 0 ≤ s.ppu.scanline) (h1 : 1 ≤ s.ppu.cycle)
    (h256 : s.ppu.cycle ≤ 256) :
    s.scanlineWork.ppu.pixelAddr.toNat =
      s.ppu.pixelNumber (if s.ppu.cycle = 1 then 15 - s.ppu.fineX.toNat else 14 - s.ppu.fineX.toNat) := by
  have hx := s.ppu.fineX.isLt
  have vertical (u : State) (c : Bool) : (u.onlyIf c (·.onPpu Ppu.incY)).ppu.pixelAddr = u.ppu.pixelAddr := by
    cases c
    · rfl
    · exact u.ppu.incY_pixelAddr
  rw [s.scanlineWork_visible hline h1 h256, vertical]
  by_cases hc : s.ppu.cycle = 1
  · have h2 : decide (2 ≤ s.ppu.cycle) = false := decide_eq_false (by omega)
    rw [h2, State.onlyIf_false, if_pos hc, Ppu.pixelAddr_toNat]
  · have h2 : decide (2 ≤ s.ppu.cycle) = true := decide_eq_true (by omega)
    rw [h2, State.onlyIf_true, if_neg hc, State.subStep_pixelAddr]
    change s.ppu.shiftBg.pixelAddr.toNat = _
    have hfine : s.ppu.shiftBg.fineX = s.ppu.fineX := (PipelineOnly.shiftBg s).fineX
    rw [Ppu.pixelAddr_toNat, hfine, Ppu.shiftBg_pixelNumber _ (by omega) (by omega),
      show 15 - s.ppu.fineX.toNat - 1 = 14 - s.ppu.fineX.toNat by omega]

/-- A pixel is a palette read (R425). -/
theorem State.ppuRead_pixelAddr (s : State) : s.ppuRead s.ppu.pixelAddr = s.ppu.palRead s.ppu.pixelAddr :=
  s.ppuRead_palette (pixelAddr_ge _)

/-- The cycles that emit a pixel (R395). -/
theorem Ppu.onVisiblePixel_iff (p : Ppu) :
    p.onVisiblePixel = true ↔ 0 ≤ p.scanline ∧ p.scanline ≤ 239 ∧ 1 ≤ p.cycle ∧ p.cycle ≤ 256 := by
  simp only [Ppu.onVisiblePixel, Bool.and_eq_true, decide_eq_true_eq, and_assoc]

/-- What the emitting step of a clock does to the frame (R425). -/
theorem State.emitPixel_frame (s : State) :
    (s.onlyIf s.ppu.onVisiblePixel State.emitPixel).ppu.frame =
      if s.ppu.onVisiblePixel then s.ppu.frame.write s.ppu.frameIndex (s.ppu.palRead s.ppu.pixelAddr)
      else s.ppu.frame := by
  rw [← s.ppuRead_pixelAddr]
  cases s.ppu.onVisiblePixel <;> rfl

/-- The counters leave the frame to the pixel. -/
theorem Ppu.advanceCounters_frame (p : Ppu) : p.advanceCounters.frame = p.frame := by
  rw [Ppu.advanceCounters_eq]

/-- A clock step writes the pixel of the shifters as the line's work leaves them, and nothing else of the frame
(R395). -/
theorem State.ppuClock_frame_eq (s : State) :
    s.ppuClock.ppu.frame =
      if s.ppu.onVisiblePixel then
        s.ppu.frame.write s.ppu.frameIndex
          (s.ppu.palRead (s.onlyIf s.ppu.onRenderLine State.scanlineWork).ppu.pixelAddr)
      else s.ppu.frame := by
  have h : PipelineOnly s (s.onlyIf s.ppu.onRenderLine State.scanlineWork) :=
    (PipelineOnly.refl s).onlyIf PipelineOnly.scanlineWork
  simp only [State.ppuClock, State.vblankEntry_eq]
  refine (Ppu.advanceCounters_frame _).trans ((State.emitPixel_frame _).trans ?_)
  generalize s.onlyIf s.ppu.onRenderLine State.scanlineWork = u at h
  change (if u.ppu.onVisiblePixel then u.ppu.frame.write u.ppu.frameIndex (u.ppu.palRead u.ppu.pixelAddr)
    else u.ppu.frame) = _
  have hvisible : u.ppu.onVisiblePixel = s.ppu.onVisiblePixel := by
    unfold Ppu.onVisiblePixel
    rw [h.scanline, h.cycle]
  have hindex : u.ppu.frameIndex = s.ppu.frameIndex := by
    unfold Ppu.frameIndex
    rw [h.scanline, h.cycle]
  have hpalette (a : PpuAddr) : u.ppu.palRead a = s.ppu.palRead a := by
    unfold Ppu.palRead Ppu.grayscale
    rw [h.pal, h.mask]
  rw [hvisible, hindex, hpalette, h.frame]

/-- Settles O41: the frame after a clock step is the frame before with the pixel of the shifted shifters written. -/
theorem pixelOutput : Obligations.PixelOutput := by
  intro s hwf
  have hframe := s.ppuClock_frame_eq
  refine ⟨fun a k b3 b2 b1 b0 h3 h2 h1 h0 ha => ?_, fun hout => ?_, fun k hk => ?_⟩
  · have hnumber : a.toNat = s.ppu.pixelNumber k := by rw [ha, h3, h2, h1, h0]; rfl
    refine ⟨fun hk => ?_, fun hline hline' hcycle hcycle' hk => ?_⟩
    · have haddr : s.ppu.pixelAddr = a := BitVec.eq_of_toNat_eq (by rw [hnumber, hk, Ppu.pixelAddr_toNat])
      rw [← haddr, ← s.ppuRead_pixelAddr]
      exact Memory.read_write_same _ hwf
    · have hrender : s.ppu.onRenderLine = true := by
        simp only [Ppu.onRenderLine, Bool.and_eq_true, decide_eq_true_eq]
        omega
      have haddr : s.scanlineWork.ppu.pixelAddr = a :=
        BitVec.eq_of_toNat_eq (by rw [hnumber, hk, s.scanlineWork_pixelAddr hline hcycle hcycle'])
      rw [hframe, if_pos (s.ppu.onVisiblePixel_iff.mpr ⟨hline, hline', hcycle, hcycle'⟩), hrender,
        State.onlyIf_true, haddr]
      exact Memory.read_write_same _ hwf
  · rw [hframe, if_neg fun h => hout (s.ppu.onVisiblePixel_iff.mp h)]
  · rw [hframe]
    split
    · exact Memory.read_write_other _ _ hk
    · rfl

end Sys2Proof.Machine
end

section
/-! The decoder and the encoder (R130 to R141). A row of `decodeRow` and a constructor of `Instr` are two views of the
same table: `encode_decodeRow` walks through the rows, `decodeRow_encode` through the constructors. Around them stands
what `decode` does with the bytes after the opcode byte, `decode_eq_ok_iff`. -/

namespace Sys2Proof

open Machine

/-! ### The rows of the decoder -/

/-- R130: the operand bytes have no part in the choice of the mnemonic. -/
theorem decodeRow_mnemonic (op b1 b2 : Byte) :
    (decodeRow op b1 b2).mnemonic = (decodeRow op 0 0).mnemonic := by
  unfold decodeRow
  split <;> rfl

/-- R130: the operand bytes have no part in the choice of the format. -/
theorem decodeRow_mode (op b1 b2 : Byte) : (decodeRow op b1 b2).mode = (decodeRow op 0 0).mode := by
  unfold decodeRow
  split <;> rfl

/-- Every row writes back its opcode byte and the operand bytes that its format takes (R131, R132). -/
theorem encode_decodeRow (op b1 b2 : Byte) :
    encode (decodeRow op b1 b2) = op :: [b1, b2].take (operandCount op) := by
  rw [operandCount, ← decodeRow_mode op b1 b2]
  unfold decodeRow
  split
  case h_152 => rfl
  all_goals
    next hop =>
      refine List.cons_eq_cons.mpr ⟨BitVec.eq_of_toNat_eq hop.symm, ?_⟩
      simp only [Instr.mode, Mode.operandBytes, List.take, lowByte_wordOf, highByte_wordOf]

theorem opcode_decodeRow (op b1 b2 : Byte) : (decodeRow op b1 b2).opcode = op := by
  rw [Instr.opcode, encode_decodeRow, List.headD_cons]

theorem operandCount_le_two (op : Byte) : operandCount op ≤ 2 := by
  unfold operandCount
  cases (decodeRow op 0 0).mode <;> decide

/-- R141: which of the 256 rows the table does not document, byte by byte. -/
theorem decodeRow_zero_mnemonic_ill_iff (op : Byte) :
    (decodeRow op 0 0).mnemonic = .ill ↔ op ∈ illegalOpcodes := by
  revert op
  decide

theorem Instr.eq_ill_of_mnemonic {i : Instr} (h : i.mnemonic = .ill) : i = .ill i.opcode := by
  cases i
  case ill => rfl
  all_goals cases h

/-- R140: the placeholder is what the bytes of R141 decode to, and nothing else does. -/
theorem decodeRow_eq_ill_iff (op b1 b2 : Byte) : decodeRow op b1 b2 = .ill op ↔ op ∈ illegalOpcodes := by
  rw [← decodeRow_zero_mnemonic_ill_iff, ← decodeRow_mnemonic op b1 b2]
  refine ⟨fun h => by rw [h]; rfl, fun h => ?_⟩
  have hill := Instr.eq_ill_of_mnemonic h
  rwa [opcode_decodeRow] at hill

/-! ### The constructors of the encoder -/

/-- The one check of `wellFormed` is the placeholder's (R141). -/
theorem Instr.wellFormed_iff (i : Instr) :
    i.wellFormed = true ↔ (i.mnemonic = .ill → i.opcode ∈ illegalOpcodes) := by
  cases i
  case ill op => exact List.contains_iff_mem.trans ⟨fun h _ => h, fun h => h rfl⟩
  all_goals exact iff_of_true rfl nofun

theorem decodeRow_wellFormed (op b1 b2 : Byte) : (decodeRow op b1 b2).wellFormed = true := by
  rw [Instr.wellFormed_iff, opcode_decodeRow, decodeRow_mnemonic]
  exact (decodeRow_zero_mnemonic_ill_iff op).mp

/-- The row of an instruction's opcode byte, given its operand bytes, is the instruction. -/
theorem decodeRow_encode {i : Instr} (h : i.wellFormed = true) :
    decodeRow i.opcode ((encode i).getD 1 0) ((encode i).getD 2 0) = i := by
  cases i
  case ill op => exact (decodeRow_eq_ill_iff op _ _).mpr (List.contains_iff_mem.mp h)
  all_goals conv_lhs => whnf
  all_goals simp [encode]

/-- R135: the row of an instruction is among the documented rows of its mnemonic. -/
theorem row_mem_documentedRows {i : Instr} (n : Nat) (h : i.mnemonic ≠ .ill) :
    (i.mode, i.opcode, i.baseCycles n) ∈ documentedRows i.mnemonic := by
  cases i
  case ill => exact absurd rfl h
  all_goals exact List.contains_iff_mem.mp rfl

/-! ### The documented table -/

theorem mnemonic_ne_ill_of_mem {m : Mnemonic} {r : Mode × Byte × Nat} (h : r ∈ documentedRows m) : m ≠ .ill := by
  rintro rfl
  cases h

theorem decodeRow_zero_mnemonic_of_mem (m : Mnemonic) :
    ∀ r ∈ documentedRows m, (decodeRow r.2.1 0 0).mnemonic = m := by
  cases m <;> decide

/-- The rows of one mnemonic differ in their opcode bytes. -/
theorem documentedRows_opcodes_nodup (m : Mnemonic) : ((documentedRows m).map (·.2.1)).Nodup := by
  cases m <;> decide

/-- R135: the row that the decoder finds at a documented opcode byte is the documented one. -/
theorem eq_row_of_mem {m : Mnemonic} {r : Mode × Byte × Nat} (hr : r ∈ documentedRows m) (b1 b2 : Byte) (n : Nat) :
    (decodeRow r.2.1 b1 b2).mnemonic = m ∧
      ((decodeRow r.2.1 b1 b2).mode, r.2.1, (decodeRow r.2.1 b1 b2).baseCycles n) = r := by
  have hm : (decodeRow r.2.1 b1 b2).mnemonic = m :=
    (decodeRow_mnemonic _ b1 b2).trans (decodeRow_zero_mnemonic_of_mem m r hr)
  have hrow := row_mem_documentedRows n (hm ▸ mnemonic_ne_ill_of_mem hr)
  rw [hm, opcode_decodeRow] at hrow
  exact ⟨hm, List.inj_on_of_nodup_map (documentedRows_opcodes_nodup m) hrow hr rfl⟩

/-! ### Strings of bytes -/

/-- What `decode` reads: an opcode byte, the operand bytes that it takes, and the rest (R130, R133). -/
theorem decode_eq_ok_iff {bytes : List Byte} {i : Instr} {rest : List Byte} :
    decode bytes = .ok (i, rest) ↔
      ∃ op operands, operands.length = operandCount op ∧ bytes = op :: (operands ++ rest) ∧
        i = decodeRow op (operands.getD 0 0) (operands.getD 1 0) := by
  constructor
  · intro h
    cases bytes with
    | nil => cases h
    | cons op tail =>
      simp only [decode] at h
      split at h
      · next hn => cases h; exact ⟨op, [], hn.symm, rfl, rfl⟩
      · next b1 _ hn => cases h; exact ⟨op, [b1], hn.symm, rfl, rfl⟩
      · next b1 b2 _ hn => cases h; exact ⟨op, [b1, b2], hn.symm, rfl, rfl⟩
      · cases h
  · rintro ⟨op, operands, hlen, rfl, rfl⟩
    have hle := hlen ▸ operandCount_le_two op
    match operands, hle with
    | [], _ | [_], _ | [_, _], _ => simp [decode, ← hlen]

theorem take_getD_length {operands : List Byte} (h : operands.length ≤ 2) :
    [operands.getD 0 0, operands.getD 1 0].take operands.length = operands := by
  match operands, h with
  | [], _ | [_], _ | [_, _], _ => rfl

/-- The bytes of an instruction are its opcode byte and as many operand bytes as `decode` takes. -/
theorem encode_eq_cons {i : Instr} (h : i.wellFormed = true) :
    ∃ operands, operands.length = operandCount i.opcode ∧ encode i = i.opcode :: operands := by
  have hbytes := encode_decodeRow i.opcode ((encode i).getD 1 0) ((encode i).getD 2 0)
  rw [decodeRow_encode h] at hbytes
  refine ⟨_, ?_, hbytes⟩
  rw [List.length_take]
  exact Nat.min_eq_left (operandCount_le_two _)

/-- Settles O1: `decode` takes the operand bytes of the instruction, and their row is the instruction. -/
theorem decodeOfEncode : Obligations.DecodeOfEncode := by
  intro i rest h
  obtain ⟨operands, hlen, hbytes⟩ := encode_eq_cons h
  have hrow := decodeRow_encode h
  rw [hbytes, List.getD_cons_succ, List.getD_cons_succ] at hrow
  rw [hbytes, List.cons_append]
  exact decode_eq_ok_iff.mpr ⟨i.opcode, operands, hlen, rfl, hrow.symm⟩

/-- Settles O2: what decodes is a row of the decoder. -/
theorem encodeOfDecode : Obligations.EncodeOfDecode := by
  intro bytes i rest h
  obtain ⟨op, operands, hlen, rfl, rfl⟩ := decode_eq_ok_iff.mp h
  refine ⟨decodeRow_wellFormed .., ?_⟩
  rw [encode_decodeRow, ← hlen, take_getD_length (hlen ▸ operandCount_le_two op), List.cons_append]

/-- Settles O4: the documented rows from the constructors and from the rows of the decoder, the placeholder from
`decodeRow_eq_ill_iff`, and the sample words by evaluation. -/
theorem opcodeTable : Obligations.OpcodeTable := by
  refine ⟨fun _ n h => row_mem_documentedRows n h, fun m r hr b1 b2 n => ?_, rfl, decodeRow_eq_ill_iff,
    rfl, rfl, rfl, rfl, rfl, rfl, rfl, rfl, rfl, rfl⟩
  obtain ⟨hm, hrow⟩ := eq_row_of_mem hr b1 b2 n
  exact ⟨hm, congrArg Prod.fst hrow, congrArg (·.2.2) hrow⟩

end Sys2Proof
end

section
/-! Totality (R161): every byte string long enough decodes, and every run of ticks goes on. -/

namespace Sys2Proof

open Machine

/-- R161: three bytes hold every instruction, whatever its opcode byte. -/
theorem decode_three_bytes (op b1 b2 : Byte) (rest : List Byte) :
    ∃ i tail, decode (op :: b1 :: b2 :: rest) = .ok (i, tail) ∧ i.opcode = op := by
  have hlen : ([b1, b2].take (operandCount op)).length = operandCount op :=
    List.length_take_of_le (operandCount_le_two op)
  have hsplit : b1 :: b2 :: rest =
      [b1, b2].take (operandCount op) ++ ([b1, b2].drop (operandCount op) ++ rest) := by
    rw [← List.append_assoc, List.take_append_drop, List.cons_append, List.singleton_append]
  exact ⟨_, _, decode_eq_ok_iff.mpr ⟨op, _, hlen, congrArg (op :: ·) hsplit, rfl⟩, opcode_decodeRow ..⟩

/-- R161, R560: one tick after another, no run stops. -/
theorem Machine.State.safeFor (s : State) (n : Nat) : s.SafeFor n := by
  induction n generalizing s with
  | zero => exact ⟨s, rfl⟩
  | succ n ih =>
    obtain ⟨t, ht⟩ := step_next s
    obtain ⟨u, hu⟩ := ih t
    refine ⟨u, ?_⟩
    simp only [Host.Core.run, show core.step s = .next t from ht]
    exact hu

/-- Settles O3: three bytes are enough to decode, and no instruction, no CPU clock and no tick has another outcome
than the next state. -/
theorem decodingAndExecutionAreTotal : Obligations.DecodingAndExecutionAreTotal :=
  ⟨decode_three_bytes, exec_next, State.cpuClock_next, State.safeFor⟩

end Sys2Proof
end

section
/-! The rows of a mnemonic in the documented table (R135), and JMP (R179, R289). -/

namespace Sys2Proof

open Machine

/-- The rows of a documented mnemonic, for the instructions and for the decoder, are those of the table (R135). -/
theorem rowsOf_documentedRows {m : Mnemonic} (h : m ≠ .ill) :
    RowsOf m ((documentedRows m).map fun r => (r.1, r.2.1)) := by
  refine ⟨?_, fun r hr b1 b2 => ?_⟩
  · rintro i rfl
    exact List.mem_map_of_mem (row_mem_documentedRows 0 h)
  · obtain ⟨row, hrow, rfl⟩ := List.mem_map.mp hr
    obtain ⟨hm, heq⟩ := eq_row_of_mem hrow b1 b2 0
    exact ⟨hm, congrArg Prod.fst heq⟩

namespace Machine

/-- A jump sets `PC` and `cyc`, and nothing else (R289). -/
theorem jump_result (s : State) (ea : Word) (base : Nat) :
    ∃ t, jump s ea base = .next t ∧ CpuIs t s.cpu.a s.cpu.x s.cpu.y s.cpu.s ea base ∧ t.cpu.p = s.cpu.p ∧
      SameOutsideCpu s t :=
  ⟨_, rfl, ⟨rfl, rfl, rfl, rfl, rfl, rfl⟩, rfl, rfl⟩

/-- The first address of a page. -/
theorem and_pageMask_toNat (w : Word) : (w &&& 0xFF00).toNat = w.toNat / 256 * 256 := by
  have hpage : w &&& 0xFF00 = wordOf 0 (highByte w) :=
    calc w &&& 0xFF00
        = (highByte w ++ lowByte w) &&& ((0xFF : Byte) ++ (0 : Byte)) := by
          rw [← wordOf, wordOf_lowByte_highByte]
          rfl
      _ = (highByte w &&& 0xFF) ++ (lowByte w &&& 0) := BitVec.and_append
      _ = wordOf 0 (highByte w) := congrArg₂ (· ++ ·) BitVec.and_allOnes BitVec.and_zero
  rw [hpage, wordOf_toNat, highByte_toNat]
  exact Nat.add_zero _

/-- R179: the high pointer byte of IND stands in the page of the low one, at its start after the page's end. -/
theorem indirectHigh_toNat (ptr : Word) :
    (indirectHigh ptr).toNat = if ptr.toNat % 256 = 255 then ptr.toNat - 255 else ptr.toNat + 1 := by
  have hlow : lowByte ptr = 0xFF ↔ ptr.toNat % 256 = 255 := by
    rw [← BitVec.toNat_inj, lowByte_toNat]
    rfl
  have hlt := ptr.isLt
  by_cases hend : ptr.toNat % 256 = 255
  · rw [indirectHigh, if_pos (hlow.mpr hend), if_pos hend, and_pageMask_toNat]
    omega
  · rw [indirectHigh, if_neg (hlow.not.mpr hend), if_neg hend]
    bv_omega

end Machine

/-- Settles O17: both forms are a jump, the indirect one after the reads of its two pointer bytes. -/
theorem jumpResults : Obligations.JumpResults := by
  refine ⟨rowsOf_documentedRows (m := .jmp) (by decide), fun s w => jump_result s w 3, ?_⟩
  rintro s ptr high lo hi hhigh rfl rfl
  obtain rfl : high = indirectHigh ptr := BitVec.eq_of_toNat_eq (hhigh.trans (indirectHigh_toNat ptr).symm)
  have h := jump_result (indirect s ptr).state (indirect s ptr).value 5
  have hcpu : (indirect s ptr).state.cpu = s.cpu := (State.memRead_cpu _ _).trans (State.memRead_cpu _ _)
  rwa [hcpu] at h

end Sys2Proof
end

section
/-! The addressing modes in numbers (R172 to R181). -/

namespace Sys2Proof.Machine

/-- R173, R174: an index wraps inside the zero page. -/
theorem zext16_add_toNat (b index : Byte) : (zext16 (b + index)).toNat = (b.toNat + index.toNat) % 256 :=
  (zext16_toNat _).trans (BitVec.toNat_add _ _)

/-- R180, R181: a zero-page pointer, low byte first, its high byte from the zero page too. -/
theorem zeroPagePointer_value_toNat (s : State) (b : Byte) :
    (zeroPagePointer s b).value.toNat =
      (s.ram.read ((b.toNat + 1) % 256)).toNat * 256 + (s.ram.read b.toNat).toNat := by
  rw [zeroPagePointer_eq, wordOf_toNat, BitVec.toNat_add]
  rfl

theorem zeroPagePointer_state (s : State) (b : Byte) : (zeroPagePointer s b).state = s := by
  rw [zeroPagePointer_eq]

/-- R180: the pointer of IZX stands at the indexed zero-page address. -/
theorem izx_ea_toNat (s : State) (b : Byte) :
    (izx s b).ea.toNat =
      (s.ram.read ((b.toNat + s.cpu.x.toNat + 1) % 256)).toNat * 256 +
        (s.ram.read ((b.toNat + s.cpu.x.toNat) % 256)).toNat := by
  calc (izx s b).ea.toNat
      = _ := zeroPagePointer_value_toNat s (b + s.cpu.x)
    _ = _ := by rw [BitVec.toNat_add, Nat.mod_add_mod]

/-- R181: IZY indexes its pointer. -/
theorem izy_eq (s : State) (b : Byte) : izy s b = indexed s (zeroPagePointer s b).value s.cpu.y := by
  rw [izy, zeroPagePointer_state]

/-- R181: the carry of IZY comes from the pointer's low byte. -/
theorem izy_crossed (s : State) (b : Byte) :
    (izy s b).crossed = decide (256 ≤ (s.ram.read b.toNat).toNat + s.cpu.y.toNat) := by
  have hlow : (zeroPagePointer s b).value.toNat % 256 = (s.ram.read b.toNat).toNat := by
    have := (s.ram.read b.toNat).isLt
    rw [zeroPagePointer_value_toNat]
    omega
  rw [izy_eq, indexed_crossed, hlow]

/-- Settles O26: the modes are a zero-page address, an indexed base, or a zero-page pointer. -/
theorem addressingModes : Obligations.AddressingModes := by
  intro s b w
  refine ⟨zext16_toNat b, rfl, rfl, ?zpx, rfl, rfl, ?zpy, rfl, rfl, relTarget_toNat s b, rfl, rfl, rfl,
    ?abx, ?abxCrossed, rfl, ?aby, ?abyCrossed, rfl, izx_ea_toNat s b, rfl, zeroPagePointer_state s _,
    ?izy, izy_crossed s b, ?izyState⟩
  case zpx => exact zext16_add_toNat b s.cpu.x
  case zpy => exact zext16_add_toNat b s.cpu.y
  case abx => exact indexed_ea_toNat s w s.cpu.x
  case abxCrossed => exact indexed_crossed s w s.cpu.x
  case aby => exact indexed_ea_toNat s w s.cpu.y
  case abyCrossed => exact indexed_crossed s w s.cpu.y
  case izy => rw [izy_eq, indexed_ea_toNat, zeroPagePointer_value_toNat]
  case izyState => rw [izy_eq, indexed]

end Sys2Proof.Machine
end

section
/-! A tick (R341): the fetch of the bytes at `PC` (R160), what each kind of tick runs, and both counts of ticks. -/

namespace Sys2Proof.Machine

theorem pc_add_succ (pc : Word) (n : Nat) : pc + BitVec.ofNat 16 (n + 1) = pc + 1 + BitVec.ofNat 16 n := by
  rw [Nat.add_comm, BitVec.ofNat_add, ← BitVec.add_assoc]
  rfl

/-- Memory shows the bytes `bs` from `PC` on. -/
def State.BytesAtPc (s : State) (bs : List Byte) : Prop :=
  ∀ (k : Nat) (h : k < bs.length), s.peek (s.cpu.pc + BitVec.ofNat 16 k) = some bs[k]

theorem State.BytesAtPc.head {s : State} {b : Byte} {bs : List Byte} (h : s.BytesAtPc (b :: bs)) :
    s.peek s.cpu.pc = some b := by
  have h0 := h 0 (Nat.zero_lt_succ _)
  rwa [BitVec.add_zero] at h0

theorem State.BytesAtPc.tail {s : State} {b : Byte} {bs : List Byte} (h : s.BytesAtPc (b :: bs)) :
    (s.setPc (s.cpu.pc + 1)).BytesAtPc bs := by
  intro k hk
  have hk' := h (k + 1) (Nat.succ_lt_succ hk)
  rwa [pc_add_succ] at hk'

/-- A fetch from memory moves `PC` and does nothing else (R160, R166). -/
theorem State.fetchByte_of_peek {s : State} {b : Byte} (h : s.peek s.cpu.pc = some b) :
    s.fetchByte = { value := b, state := s.setPc (s.cpu.pc + 1) } := by
  rw [State.fetchByte, State.memRead_of_peek h]

theorem State.fetchBytes_of_bytesAtPc {s : State} {bs : List Byte} (h : s.BytesAtPc bs) :
    s.fetchBytes bs.length = { bytes := bs, state := s.setPc (s.cpu.pc + BitVec.ofNat 16 bs.length) } := by
  induction bs generalizing s with
  | nil =>
    rw [List.length_nil, BitVec.add_zero]
    rfl
  | cons b bs ih =>
    simp only [List.length_cons, State.fetchBytes, State.fetchByte_of_peek h.head, ih h.tail, pc_add_succ]
    rfl

/-- R160: an instruction whose bytes stand at `PC` is fetched, and `PC` moves past them. -/
theorem State.fetchInstr_of_bytesAtPc {s : State} {bs : List Byte} {i : Instr} (h : s.BytesAtPc bs)
    (hdecode : decode bs = .ok (i, [])) :
    s.fetchInstr = { instr := i, state := s.setPc (s.cpu.pc + BitVec.ofNat 16 i.length) } := by
  obtain ⟨op, operands, hlen, rfl, rfl⟩ := decode_eq_ok_iff.mp hdecode
  rw [List.append_nil] at h
  have hbytes : s.fetchInstrBytes = s.fetchBytes (op :: operands).length := by
    simp only [State.fetchInstrBytes, List.length_cons, hlen, State.fetchBytes, State.fetchByte_of_peek h.head]
  have hlength : (decodeRow op (operands.getD 0 0) (operands.getD 1 0)).length = (op :: operands).length := by
    rw [Instr.length, decodeRow_mode, List.length_cons, hlen, operandCount, Nat.add_comm]
  rw [State.fetchInstr, hbytes, State.fetchBytes_of_bytesAtPc h, hlength]
  rfl

@[simp] theorem State.deviceClock_cpu (s : State) : s.deviceClock.cpu = s.cpu := s.deviceClock_frame.1

@[simp] theorem State.deviceClock_clock (s : State) : s.deviceClock.clock = s.clock := by
  obtain ⟨-, -, -, -, -, -, -, h, -⟩ := s.deviceClock_frame
  exact h

@[simp] theorem State.deviceClock_dma (s : State) : s.deviceClock.dma = s.dma := by
  obtain ⟨-, -, -, -, -, -, -, -, h, -⟩ := s.deviceClock_frame
  exact h

/-- The devices' steps change no byte that a fetch reads. -/
theorem State.BytesAtPc.deviceClock {s : State} {bs : List Byte} (h : s.BytesAtPc bs) :
    s.deviceClock.BytesAtPc bs := by
  obtain ⟨hcpu, hram, -, -, -, -, -, -, -, hcart, -⟩ := s.deviceClock_frame
  intro k hk
  rw [hcpu, State.peek_of_ram_cart hram hcart]
  exact h k hk

/-- R341: the devices step, then the CPU's part runs, then the tick ends. -/
theorem step_of_cpuPart {s u : State} (h : s.deviceClock.cpuPart = .next u) : step s = .next u.endTick := by
  rw [step, State.tick, h]

/-- R341, R342: a tick that is not a CPU slot. -/
theorem step_of_notCpuSlot {s : State} (h : s.clock % 3 ≠ 0) : step s = .next s.deviceClock.endTick := by
  refine step_of_cpuPart ?_
  rw [State.cpuPart, s.deviceClock_clock, if_neg h]

/-- R342, R357: a CPU slot while a transfer runs. -/
theorem step_of_dma {s : State} (hslot : s.clock % 3 = 0) (hdma : s.dma.enable = true) :
    step s = .next s.deviceClock.dmaStep.endTick := by
  refine step_of_cpuPart ?_
  rw [State.cpuPart, s.deviceClock_clock, s.deviceClock_dma, if_pos hslot, if_pos hdma]

/-- R341: a CPU slot with no transfer is a CPU clock. -/
theorem step_of_cpuClock {s u : State} (hslot : s.clock % 3 = 0) (hdma : s.dma.enable = false)
    (h : s.deviceClock.cpuClock = .next u) : step s = .next u.endTick := by
  refine step_of_cpuPart ?_
  rw [State.cpuPart, s.deviceClock_clock, s.deviceClock_dma, if_pos hslot, if_neg (by simp [hdma]), h]

/-- R160, R373: a CPU clock at an instruction boundary. -/
theorem State.cpuClock_of_boundary {s t : State} (hcyc : s.cpu.cyc = 0)
    (h : exec s.fetchInstr.instr s.fetchInstr.state = .next t) : s.cpuClock = .next t.countDown := by
  rw [State.cpuClock, if_pos hcyc, h]

/-- R167: a CPU clock inside an instruction. -/
theorem State.cpuClock_of_running {s : State} (hcyc : s.cpu.cyc ≠ 0) : s.cpuClock = .next s.countDown := by
  rw [State.cpuClock, if_neg hcyc]

/-- R160, R341, R373: a tick at an instruction boundary runs the instruction at `PC`. -/
theorem step_at_boundary {s : State} {bs : List Byte} {i : Instr} (hslot : s.clock % 3 = 0)
    (hdma : s.dma.enable = false) (hcyc : s.cpu.cyc = 0) (hbytes : s.BytesAtPc bs)
    (hdecode : decode bs = .ok (i, [])) :
    ∃ t, exec i (s.deviceClock.setPc (s.cpu.pc + BitVec.ofNat 16 i.length)) = .next t ∧
      step s = .next (t.setCyc (t.cpu.cyc - 1)).endTick := by
  obtain ⟨t, ht⟩ := exec_next i (s.deviceClock.setPc (s.cpu.pc + BitVec.ofNat 16 i.length))
  refine ⟨t, ht, step_of_cpuClock hslot hdma (State.cpuClock_of_boundary ?_ ?_)⟩
  · rw [s.deviceClock_cpu, hcyc]
  · rw [State.fetchInstr_of_bytesAtPc hbytes.deviceClock hdecode, s.deviceClock_cpu]
    exact ht

/-- R341, R345: a tick counts itself once, in the machine and in the audio unit. -/
theorem step_clocks {s t : State} (h : step s = .next t) :
    t.clock = s.clock + 1 ∧ t.apu.clock = s.apu.clock + 1 := by
  obtain ⟨u, rfl, ⟨hclock, hapu, -⟩, -⟩ := step_counts h
  have ha := u.arbiter_interruptStep
  refine ⟨?_, ?_⟩
  · exact congrArg (· + 1) ((ha.clock.trans hclock).trans s.deviceClock_clock)
  · calc u.arbiter.apu.clock
        = s.deviceClock.apu.clock := by rw [ha.apu, hapu]
      _ = s.apu.clock + 1 := by rw [s.deviceClock_apu, Apu.tick_clock]

/-- Settles O5: one clause for each kind of tick, and the counts. -/
theorem stepRunsDecodedInstruction : Obligations.StepRunsDecodedInstruction := by
  refine ⟨fun s bs i => step_at_boundary, fun s => step_of_notCpuSlot, fun s => step_of_dma,
    fun s hslot hdma hcyc => ?_, fun s t => step_clocks⟩
  rw [← s.deviceClock_cpu] at hcyc ⊢
  exact step_of_cpuClock hslot hdma (State.cpuClock_of_running hcyc)

end Sys2Proof.Machine
end

section
/-! Loads, stores and transfers (R201 to R212): what a byte's flags and a cost do to a machine, and what one bus write
and a cost do, said once; every one of these instructions but TXS ends in one of the two. -/

namespace Sys2Proof.Machine

/-- The end of an operation that describes a byte in Z and N (R30) and pays its clocks: `r` is the machine after the
result is in place, `u` one that `r` differs from in the CPU only, `s` one with the status of `r`. -/
theorem setZN_charge_result {s u : State} (r : State) (hp : r.cpu.p = s.cpu.p) (hout : SameOutsideCpu u r) (v : Byte)
    (base : Nat) (crossed extra : Bool) :
    CpuIs ((r.setZN v).charge base crossed extra 0) r.cpu.a r.cpu.x r.cpu.y r.cpu.s r.cpu.pc
      (base + (crossed && extra).toNat) ∧
    ZnOf ((r.setZN v).charge base crossed extra 0) v ∧
    FlagsKeptBut [.z, .n] s ((r.setZN v).charge base crossed extra 0) ∧
    SameOutsideCpu u ((r.setZN v).charge base crossed extra 0) :=
  ⟨⟨rfl, rfl, rfl, rfl, rfl, rfl⟩, ZnOf_setZN r v,
    fun f hf => (FlagsKeptBut_setZN r v f hf).trans (State.flag_of_p hp f),
    (hout.setZN v).charge base crossed extra 0⟩

/-- One bus write, then the cost of an instruction with no page-cross cycle. -/
theorem memWrite_charge_result (s : State) (a : Word) (v : Byte) (base : Nat) (crossed : Bool) :
    CpuIs ((s.memWrite a v).charge base crossed false 0) s.cpu.a s.cpu.x s.cpu.y s.cpu.s s.cpu.pc base ∧
    ((s.memWrite a v).charge base crossed false 0).cpu.p = s.cpu.p ∧
    SameOutsideCpu (s.memWrite a v) ((s.memWrite a v).charge base crossed false 0) := by
  obtain ⟨hcpu, -⟩ := s.memWrite_frame a v
  refine ⟨?_, ?_, (SameOutsideCpu.refl _).charge base crossed false 0⟩
  · simp [CpuIs, hcpu]
  · rw [State.charge_p, hcpu]

/-- Settles O6: each load puts the operand in its register, after a read that keeps the CPU. -/
theorem loadResults : Obligations.LoadResults := by
  refine ⟨rowsOf_documentedRows (m := .lda) (by decide), rowsOf_documentedRows (m := .ldx) (by decide),
    rowsOf_documentedRows (m := .ldy) (by decide), fun i s hi => ?_⟩
  have hp : (s.operand i).state.cpu.p = s.cpu.p := by rw [State.operand_cpu]
  have hout := SameOutsideCpu.refl (s.operand i).state
  simp only [List.mem_cons, List.not_mem_nil, or_false] at hi
  rcases hi with hm | hm | hm
  · refine ⟨_, exec_lda hm s, ?_⟩
    simpa [hm] using setZN_charge_result ((s.operand i).state.setA (s.operand i).value) hp (hout.setA _)
      (s.operand i).value (i.baseCycles s.params.illegalCycles) (s.operand i).crossed true
  · refine ⟨_, exec_ldx hm s, ?_⟩
    simpa [hm] using setZN_charge_result ((s.operand i).state.setX (s.operand i).value) hp (hout.setX _)
      (s.operand i).value (i.baseCycles s.params.illegalCycles) (s.operand i).crossed true
  · refine ⟨_, exec_ldy hm s, ?_⟩
    simpa [hm] using setZN_charge_result ((s.operand i).state.setY (s.operand i).value) hp (hout.setY _)
      (s.operand i).value (i.baseCycles s.params.illegalCycles) (s.operand i).crossed true

/-- R135: JMP alone has the format IND. -/
theorem mode_ne_ind {i : Instr} (h : i.mnemonic ≠ .jmp) : i.mode ≠ .ind := by
  cases i with
  | jmpInd _ => exact absurd rfl h
  | _ => exact nofun

/-- Settles O7: each store is one bus write, from a machine that finding the address left as it was. -/
theorem storeResults : Obligations.StoreResults := by
  refine ⟨rowsOf_documentedRows (m := .sta) (by decide), rowsOf_documentedRows (m := .stx) (by decide),
    rowsOf_documentedRows (m := .sty) (by decide), fun i s hi => ?_⟩
  have hjmp : i.mnemonic ≠ .jmp := fun h => absurd (h ▸ hi) (by decide)
  have hloc := s.locate_state (mode_ne_ind hjmp)
  simp only [List.mem_cons, List.not_mem_nil, or_false] at hi
  rcases hi with hm | hm | hm
  · refine ⟨_, exec_sta hm s, ?_⟩
    simpa [hm, hloc] using memWrite_charge_result s (s.locate i).ea s.cpu.a _ (s.locate i).crossed
  · refine ⟨_, exec_stx hm s, ?_⟩
    simpa [hm, hloc] using memWrite_charge_result s (s.locate i).ea s.cpu.x _ (s.locate i).crossed
  · refine ⟨_, exec_sty hm s, ?_⟩
    simpa [hm, hloc] using memWrite_charge_result s (s.locate i).ea s.cpu.y _ (s.locate i).crossed

/-- Settles O8: five transfers describe the byte they copy, and TXS sets `S` alone. -/
theorem transferResults : Obligations.TransferResults := by
  refine ⟨rowsOf_documentedRows (m := .tax) (by decide), rowsOf_documentedRows (m := .tay) (by decide),
    rowsOf_documentedRows (m := .txa) (by decide), rowsOf_documentedRows (m := .tya) (by decide),
    rowsOf_documentedRows (m := .tsx) (by decide), rowsOf_documentedRows (m := .txs) (by decide), fun s => ?_⟩
  have h := SameOutsideCpu.refl s
  refine ⟨?tax, ?tay, ?txa, ?tya, ?tsx, ?txs⟩
  case tax => exact ⟨_, rfl, setZN_charge_result (s.setX s.cpu.a) rfl (h.setX s.cpu.a) s.cpu.a 2 false false⟩
  case tay => exact ⟨_, rfl, setZN_charge_result (s.setY s.cpu.a) rfl (h.setY s.cpu.a) s.cpu.a 2 false false⟩
  case txa => exact ⟨_, rfl, setZN_charge_result (s.setA s.cpu.x) rfl (h.setA s.cpu.x) s.cpu.x 2 false false⟩
  case tya => exact ⟨_, rfl, setZN_charge_result (s.setA s.cpu.y) rfl (h.setA s.cpu.y) s.cpu.y 2 false false⟩
  case tsx => exact ⟨_, rfl, setZN_charge_result (s.setX s.cpu.s) rfl (h.setX s.cpu.s) s.cpu.s 2 false false⟩
  case txs => exact ⟨_, rfl, ⟨rfl, rfl, rfl, rfl, rfl, rfl⟩, rfl, (h.setS s.cpu.x).charge 2 false false 0⟩

end Sys2Proof.Machine
end

section
/-! Arithmetic and logic (R231 to R245): which flags each group of operations sets, the arithmetic in numbers, and one
result lemma for each way that these instructions end. -/

namespace Sys2Proof.Machine

/-! ### What keeps a flag -/

/-- An update of `P` keeps the flags that are not listed when it sets a listed one. -/
theorem FlagsKeptBut.setFlag {w : List Flag} {s t : State} (h : FlagsKeptBut w s t) {f : Flag} (hf : f ∈ w)
    (b : Bool) : FlagsKeptBut w s (t.setFlag f b) := by
  intro g hg
  have hne : g ≠ f := fun heq => hg (heq ▸ hf)
  rw [State.flag_setFlag, if_neg hne]
  exact h g hg

/-- Reading an operand keeps every flag. -/
theorem FlagsKeptBut.operand (w : List Flag) (s : State) (i : Instr) : FlagsKeptBut w s (s.operand i).state :=
  fun f _ => s.operand_flag i f

theorem FlagsKeptBut.setA {w : List Flag} {s t : State} (h : FlagsKeptBut w s t) (v : Byte) :
    FlagsKeptBut w s (t.setA v) := h

theorem FlagsKeptBut.charge {w : List Flag} {s t : State} (h : FlagsKeptBut w s t) (n : Nat) (c e : Bool) (k : Nat) :
    FlagsKeptBut w s (t.charge n c e k) := h

/-! ### The flags of sums, comparisons and bit tests -/

theorem State.flag_setSumFlags (s : State) (r : Sum) (f : Flag) :
    (s.setSumFlags r).flag f =
      if f = .n then r.value.getLsbD 7 else if f = .v then r.overflow else if f = .z then r.value == 0
      else if f = .c then r.carry else s.flag f := by
  simp only [State.setSumFlags, State.flag_setFlag]

theorem ZnOf_setSumFlags (s : State) (r : Sum) : ZnOf (s.setSumFlags r) r.value := by
  refine ⟨?_, ?_⟩
  · simp [State.flag_setSumFlags, Bool.beq_eq_decide_eq]
  · rw [State.flag_setSumFlags, if_pos rfl, byte_bit7]

theorem FlagsKeptBut.setSumFlags {s t : State} (h : FlagsKeptBut [.c, .z, .v, .n] s t) (r : Sum) :
    FlagsKeptBut [.c, .z, .v, .n] s (t.setSumFlags r) :=
  (((h.setFlag (by decide) _).setFlag (by decide) _).setFlag (by decide) _).setFlag (by decide) _

theorem SameOutsideCpu.setSumFlags {s t : State} (h : SameOutsideCpu s t) (r : Sum) :
    SameOutsideCpu s (t.setSumFlags r) := h

theorem State.flag_setCompareFlags (s : State) (r m : Byte) (f : Flag) :
    (s.setCompareFlags r m).flag f =
      if f = .n then (r - m).getLsbD 7 else if f = .z then r == m else if f = .c then decide (m ≤ r)
      else s.flag f := by
  simp only [State.setCompareFlags, State.flag_setFlag]

theorem FlagsKeptBut.setCompareFlags {s t : State} (h : FlagsKeptBut [.c, .z, .n] s t) (r m : Byte) :
    FlagsKeptBut [.c, .z, .n] s (t.setCompareFlags r m) :=
  ((h.setFlag (by decide) _).setFlag (by decide) _).setFlag (by decide) _

theorem SameOutsideCpu.setCompareFlags {s t : State} (h : SameOutsideCpu s t) (r m : Byte) :
    SameOutsideCpu s (t.setCompareFlags r m) := h

theorem State.flag_setBitTestFlags (s : State) (m : Byte) (f : Flag) :
    (s.setBitTestFlags m).flag f =
      if f = .v then m.getLsbD 6 else if f = .n then m.getLsbD 7 else if f = .z then (s.cpu.a &&& m) == 0
      else s.flag f := by
  simp only [State.setBitTestFlags, State.flag_setFlag]

theorem FlagsKeptBut.setBitTestFlags {s t : State} (h : FlagsKeptBut [.z, .v, .n] s t) (m : Byte) :
    FlagsKeptBut [.z, .v, .n] s (t.setBitTestFlags m) :=
  ((h.setFlag (by decide) _).setFlag (by decide) _).setFlag (by decide) _

theorem SameOutsideCpu.setBitTestFlags {s t : State} (h : SameOutsideCpu s t) (m : Byte) :
    SameOutsideCpu s (t.setBitTestFlags m) := h

/-! ### Arithmetic in numbers -/

/-- The complement of a byte, as a signed number. -/
theorem xor_ff_toInt (m : Byte) : (m ^^^ 0xFF).toInt = -m.toInt - 1 := by
  have hm := m.isLt
  rw [BitVec.toInt_eq_toNat_cond, BitVec.toInt_eq_toNat_cond, xor_ff_toNat]
  split_ifs <;> omega

/-- SBC's result as a number (R232). -/
theorem subWithBorrow_value (a m : Byte) (c : Bool) :
    ((subWithBorrow a m c).value.toNat : Int) = ((a.toNat : Int) - m.toNat - (1 - c.toNat)) % 256 := by
  have hm := m.isLt
  rw [subWithBorrow_eq, addWithCarry_value, xor_ff_toNat]
  omega

/-- SBC's carry says that no borrow was needed (R232). -/
theorem subWithBorrow_carry (a m : Byte) (c : Bool) :
    (subWithBorrow a m c).carry = decide (m.toNat + (1 - c.toNat) ≤ a.toNat) := by
  have hm := m.isLt
  have hc : c.toNat ≤ 1 := Bool.toNat_le c
  rw [subWithBorrow_eq, addWithCarry_carry, xor_ff_toNat, decide_eq_decide]
  omega

/-- SBC's overflow formula says that the signed difference does not fit in 8 bits (R232). -/
theorem subWithBorrow_overflow (a m : Byte) (c : Bool) :
    (subWithBorrow a m c).overflow =
      decide (a.toInt - m.toInt - (1 - (c.toNat : Int)) < -128 ∨
        127 < a.toInt - m.toInt - (1 - (c.toNat : Int))) := by
  rw [subWithBorrow_eq, addWithCarry_overflow, xor_ff_toInt, decide_eq_decide]
  omega

/-- Bit 7 of the difference that a comparison looks at (R237). -/
theorem sub_bit7 (r m : Byte) : (r - m).getLsbD 7 = decide (128 ≤ (r.toNat + 256 - m.toNat) % 256) := by
  have hm := m.isLt
  rw [byte_bit7, BitVec.toNat_sub, decide_eq_decide]
  omega

theorem add_one_toNat (v : Byte) : (v + 1).toNat = (v.toNat + 1) % 256 := BitVec.toNat_add v 1

theorem sub_one_toNat (v : Byte) : (v - 1).toNat = (v.toNat + 255) % 256 := by
  rw [BitVec.toNat_sub, Nat.add_comm]
  rfl

/-! ### Formats -/

/-- R135: the format of a documented instruction is one of its mnemonic's. -/
theorem mode_mem_documentedRows {i : Instr} {m : Mnemonic} (hm : i.mnemonic = m) (h : m ≠ .ill) :
    i.mode ∈ (documentedRows m).map (·.1) := by
  subst hm
  exact List.mem_map_of_mem (row_mem_documentedRows 0 h)

/-- Without an index there is no page to cross (R171, R172, R176). -/
theorem State.operand_not_crossed (s : State) {i : Instr} (h : i.mode ∈ [Mode.imm, .zp0, .abs]) :
    (s.operand i).crossed = false := by
  simp only [List.mem_cons, List.not_mem_nil, or_false] at h
  rcases h with hmode | hmode | hmode <;> simp only [State.operand, State.locate, hmode] <;> rfl

/-- An operand in memory is fetched from the effective address (R164). -/
theorem State.operand_eq_fetch (s : State) {i : Instr} (himp : i.mode ≠ .imp) (himm : i.mode ≠ .imm) :
    s.operand i = (s.locate i).fetch := by
  simp only [State.operand]
  split
  · next h => exact absurd h himp
  · next h => exact absurd h himm
  all_goals rfl

/-! ### Sums and differences -/

section
variable {i : Instr} {s : State} {base : Nat}

/-- ADC and SBC end alike: the byte of `r` in `A`, and its four flags. -/
theorem exec_sum_result (r : Sum)
    (h : exec i s =
      .next ((((s.operand i).state.setSumFlags r).setA r.value).charge base (s.operand i).crossed true 0)) :
    ∃ t, exec i s = .next t ∧
      CpuIs t r.value s.cpu.x s.cpu.y s.cpu.s s.cpu.pc (base + (s.operand i).crossed.toNat) ∧
      t.flag .c = r.carry ∧ t.flag .v = r.overflow ∧ ZnOf t r.value ∧ FlagsKeptBut [.c, .z, .v, .n] s t ∧
      SameOutsideCpu (s.operand i).state t := by
  have hout := SameOutsideCpu.refl (s.operand i).state
  refine ⟨_, h, ?regs, ?c, ?v, ?zn, ?kept, ((hout.setSumFlags r).setA _).charge _ _ _ _⟩
  case regs => simp [CpuIs, State.setSumFlags]
  case c => simp [State.flag_setSumFlags]
  case v => simp [State.flag_setSumFlags]
  case zn => exact ZnOf_setSumFlags (s.operand i).state r
  case kept => exact (((FlagsKeptBut.operand _ s i).setSumFlags r).setA _).charge _ _ _ _

/-- The comparisons end alike: three flags, of the register's value `r` and the operand. -/
theorem exec_compare_result (r : Byte) {extra : Bool} (hcost : ((s.operand i).crossed && extra) = (s.operand i).crossed)
    (h : exec i s =
      .next (((s.operand i).state.setCompareFlags r (s.operand i).value).charge base (s.operand i).crossed extra 0)) :
    ∃ t, exec i s = .next t ∧
      CpuIs t s.cpu.a s.cpu.x s.cpu.y s.cpu.s s.cpu.pc (base + (s.operand i).crossed.toNat) ∧
      t.flag .c = decide ((s.operand i).value.toNat ≤ r.toNat) ∧
      t.flag .z = decide (r = (s.operand i).value) ∧
      t.flag .n = decide (128 ≤ (r.toNat + 256 - (s.operand i).value.toNat) % 256) ∧
      FlagsKeptBut [.c, .z, .n] s t ∧ SameOutsideCpu (s.operand i).state t := by
  have hout := SameOutsideCpu.refl (s.operand i).state
  refine ⟨_, h, ?regs, ?c, ?z, ?n, ?kept, (hout.setCompareFlags r _).charge _ _ _ _⟩
  case regs => simp [CpuIs, State.setCompareFlags, hcost]
  case c => simp [State.flag_setCompareFlags, BitVec.le_def]
  case z => simp [State.flag_setCompareFlags, Bool.beq_eq_decide_eq]
  case n => rw [State.flag_charge, State.flag_setCompareFlags, if_pos rfl, sub_bit7]
  case kept => exact ((FlagsKeptBut.operand _ s i).setCompareFlags r _).charge _ _ _ _

/-- AND, ORA and EOR end alike: the byte `r` in `A`, and its Z and N. -/
theorem exec_logic_result (r : Byte)
    (h : exec i s = .next ((((s.operand i).state.setA r).setZN r).charge base (s.operand i).crossed true 0)) :
    ∃ t, exec i s = .next t ∧
      CpuIs t r s.cpu.x s.cpu.y s.cpu.s s.cpu.pc (base + (s.operand i).crossed.toNat) ∧
      ZnOf t r ∧ FlagsKeptBut [.z, .n] s t ∧ SameOutsideCpu (s.operand i).state t := by
  have hp : (s.operand i).state.cpu.p = s.cpu.p := by rw [State.operand_cpu]
  have hout := SameOutsideCpu.refl (s.operand i).state
  refine ⟨_, h, ?_⟩
  simpa using setZN_charge_result ((s.operand i).state.setA r) hp (hout.setA r) r base (s.operand i).crossed true

/-- INC and DEC end alike: the byte `r` at the effective address, and its Z and N. -/
theorem exec_modify_result (r : Byte) {crossed : Bool}
    (h : exec i s =
      .next ((((s.operand i).state.memWrite (s.locate i).ea r).setZN r).charge base crossed false 0)) :
    ∃ t, exec i s = .next t ∧ CpuIs t s.cpu.a s.cpu.x s.cpu.y s.cpu.s s.cpu.pc base ∧ ZnOf t r ∧
      FlagsKeptBut [.z, .n] s t ∧ SameOutsideCpu ((s.operand i).state.memWrite (s.locate i).ea r) t := by
  obtain ⟨hwrite, -⟩ := (s.operand i).state.memWrite_frame (s.locate i).ea r
  have hcpu : ((s.operand i).state.memWrite (s.locate i).ea r).cpu = s.cpu := hwrite.trans (s.operand_cpu i)
  have hp := congrArg Cpu.p hcpu
  refine ⟨_, h, ?_⟩
  simpa [hcpu] using setZN_charge_result _ hp (SameOutsideCpu.refl _) r base crossed false

end

/-- Settles O9: the arithmetic is `addWithCarry`, in numbers by its three laws. -/
theorem adcResult : Obligations.AdcResult := by
  refine ⟨rowsOf_documentedRows (m := .adc) (by decide), fun i s hm => ?_⟩
  obtain ⟨t, hexec, hregs, hc, hv, hzn, hkept, hout⟩ :=
    exec_sum_result (i := i) (addWithCarry s.cpu.a (s.operand i).value (s.flag .c))
      (by rw [exec_adc hm, opAdc, State.operand_cpu, State.operand_flag])
  refine ⟨t, _, hexec, addWithCarry_value .., hregs, hc, hv, ?_, hzn, hkept, hout⟩
  rw [hv, addWithCarry_overflow, decide_eq_true_eq]

/-- Settles O10: the arithmetic is `subWithBorrow`, in numbers by its three laws. -/
theorem sbcResult : Obligations.SbcResult := by
  refine ⟨rowsOf_documentedRows (m := .sbc) (by decide), fun i s hm => ?_⟩
  obtain ⟨t, hexec, hregs, hc, hv, hzn, hkept, hout⟩ :=
    exec_sum_result (i := i) (subWithBorrow s.cpu.a (s.operand i).value (s.flag .c))
      (by rw [exec_sbc hm, opSbc, State.operand_cpu, State.operand_flag])
  refine ⟨t, _, hexec, subWithBorrow_value .., hregs, hc.trans (subWithBorrow_carry ..), hv, ?_, hzn, hkept, hout⟩
  rw [hv, subWithBorrow_overflow, decide_eq_true_eq]

/-- Settles O11: each of the three puts its byte into `A`, and bits of `&&&`, `|||` and `^^^` are the library's. -/
theorem logicResults : Obligations.LogicResults := by
  refine ⟨rowsOf_documentedRows (m := .and) (by decide), rowsOf_documentedRows (m := .ora) (by decide),
    rowsOf_documentedRows (m := .eor) (by decide), fun i s hi => ?_⟩
  simp only [List.mem_cons, List.not_mem_nil, or_false] at hi
  rcases hi with hm | hm | hm
  · obtain ⟨t, hexec, hrest⟩ := exec_logic_result (i := i) (s.cpu.a &&& (s.operand i).value)
      (by rw [exec_and hm, opAnd, State.operand_cpu])
    exact ⟨t, _, hexec, fun k => by simp [hm], hrest⟩
  · obtain ⟨t, hexec, hrest⟩ := exec_logic_result (i := i) (s.cpu.a ||| (s.operand i).value)
      (by rw [exec_ora hm, opOra, State.operand_cpu])
    exact ⟨t, _, hexec, fun k => by simp [hm], hrest⟩
  · obtain ⟨t, hexec, hrest⟩ := exec_logic_result (i := i) (s.cpu.a ^^^ (s.operand i).value)
      (by rw [exec_eor hm, opEor, State.operand_cpu])
    exact ⟨t, _, hexec, fun k => by simp [hm], hrest⟩

/-- Settles O12: BIT sets its three flags, and pays no page-cross cycle. -/
theorem bitResult : Obligations.BitResult := by
  refine ⟨rowsOf_documentedRows (m := .bit) (by decide), fun i s hm => ?_⟩
  have hout := SameOutsideCpu.refl (s.operand i).state
  refine ⟨_, exec_bit hm s, ?regs, ?z, ?n, ?v, ?kept, (hout.setBitTestFlags _).charge _ _ _ _⟩
  case regs => simp [CpuIs, State.setBitTestFlags]
  case z => simp [State.flag_setBitTestFlags, Bool.beq_eq_decide_eq]
  case n => simp [State.flag_setBitTestFlags]
  case v => simp [State.flag_setBitTestFlags]
  case kept => exact ((FlagsKeptBut.operand _ s i).setBitTestFlags _).charge _ _ _ _

/-- Settles O13: one comparison for three registers; CPX and CPY have no format that crosses a page. -/
theorem compareResults : Obligations.CompareResults := by
  refine ⟨rowsOf_documentedRows (m := .cmp) (by decide), rowsOf_documentedRows (m := .cpx) (by decide),
    rowsOf_documentedRows (m := .cpy) (by decide), fun i s r hi hr => ?_⟩
  simp only [List.mem_cons, List.not_mem_nil, or_false] at hi
  rcases hi with hm | hm | hm
  · obtain rfl : r = s.cpu.a := by simpa [hm] using hr
    exact exec_compare_result (extra := true) _ (Bool.and_true _) (by rw [exec_cmp hm, opCmp, State.operand_cpu])
  · obtain rfl : r = s.cpu.x := by simpa [hm] using hr
    have hcrossed := s.operand_not_crossed (mode_mem_documentedRows hm (by decide))
    exact exec_compare_result (extra := false) _ (by rw [hcrossed, Bool.false_and])
      (by rw [exec_cpx hm, opCpx, State.operand_cpu])
  · obtain rfl : r = s.cpu.y := by simpa [hm] using hr
    have hcrossed := s.operand_not_crossed (mode_mem_documentedRows hm (by decide))
    exact exec_compare_result (extra := false) _ (by rw [hcrossed, Bool.false_and])
      (by rw [exec_cpy hm, opCpy, State.operand_cpu])

/-- R240, R241: the operand of INC and DEC is what stands at the effective address. -/
theorem State.operand_eq_fetch_of_modify (s : State) {i : Instr} (hi : i.mnemonic = .inc ∨ i.mnemonic = .dec) :
    s.operand i = (s.locate i).fetch := by
  have hmode : i.mode ∈ [Mode.zp0, .zpx, .abs, .abx] :=
    hi.elim (mode_mem_documentedRows · (by decide)) (mode_mem_documentedRows · (by decide))
  exact s.operand_eq_fetch (fun h => absurd (h ▸ hmode) (by decide)) (fun h => absurd (h ▸ hmode) (by decide))

/-- Settles O14: the memory forms write one byte back, the register forms are transfers of a changed byte. -/
theorem incrementResults : Obligations.IncrementResults := by
  refine ⟨rowsOf_documentedRows (m := .inc) (by decide), rowsOf_documentedRows (m := .dec) (by decide),
    rowsOf_documentedRows (m := .inx) (by decide), rowsOf_documentedRows (m := .iny) (by decide),
    rowsOf_documentedRows (m := .dex) (by decide), rowsOf_documentedRows (m := .dey) (by decide),
    fun i s hi => ?memory, fun s => ?register⟩
  case memory =>
    simp only [List.mem_cons, List.not_mem_nil, or_false] at hi
    have hfetch := s.operand_eq_fetch_of_modify hi
    rcases hi with hm | hm
    · obtain ⟨t, hexec, hrest⟩ := exec_modify_result (i := i) ((s.operand i).value + 1)
        (by rw [exec_inc hm, opInc, ← hfetch])
      exact ⟨t, _, hexec, by rw [if_pos hm, add_one_toNat], hrest⟩
    · obtain ⟨t, hexec, hrest⟩ := exec_modify_result (i := i) ((s.operand i).value - 1)
        (by rw [exec_dec hm, opDec, ← hfetch])
      exact ⟨t, _, hexec, by rw [if_neg (by rw [hm]; decide), sub_one_toNat], hrest⟩
  case register =>
    have h := SameOutsideCpu.refl s
    refine ⟨?inx, ?iny, ?dex, ?dey⟩
    case inx => exact ⟨_, _, rfl, add_one_toNat s.cpu.x,
      setZN_charge_result (s.setX _) rfl (h.setX _) _ 2 false false⟩
    case iny => exact ⟨_, _, rfl, add_one_toNat s.cpu.y,
      setZN_charge_result (s.setY _) rfl (h.setY _) _ 2 false false⟩
    case dex => exact ⟨_, _, rfl, sub_one_toNat s.cpu.x,
      setZN_charge_result (s.setX _) rfl (h.setX _) _ 2 false false⟩
    case dey => exact ⟨_, _, rfl, sub_one_toNat s.cpu.y,
      setZN_charge_result (s.setY _) rfl (h.setY _) _ 2 false false⟩

end Sys2Proof.Machine
end

section
/-! Shifts and rotates (R270 to R274): the four mnemonics are four one-bit shifts of the operand, and the accumulator
form and the memory form of such a shift end in the same flags. -/

namespace Sys2Proof.Machine

/-! ### The flags of a shift -/

theorem State.flag_setShiftFlags (s : State) (r : Shifted) (f : Flag) :
    (s.setShiftFlags r).flag f =
      if f = .n then r.value.getLsbD 7 else if f = .z then r.value == 0 else if f = .c then r.carry
      else s.flag f := by
  simp only [State.setShiftFlags, State.flag_setZN, State.flag_setFlag]

@[simp] theorem State.flag_setShiftFlags_c (s : State) (r : Shifted) : (s.setShiftFlags r).flag .c = r.carry := by
  simp [State.flag_setShiftFlags]

theorem ZnOf_setShiftFlags (s : State) (r : Shifted) : ZnOf (s.setShiftFlags r) r.value :=
  ZnOf_setZN (s.setFlag .c r.carry) r.value

theorem FlagsKeptBut.setShiftFlags {s t : State} (h : FlagsKeptBut [.c, .z, .n] s t) (r : Shifted) :
    FlagsKeptBut [.c, .z, .n] s (t.setShiftFlags r) :=
  ((h.setFlag (by decide) _).setFlag (by decide) _).setFlag (by decide) _

theorem SameOutsideCpu.setShiftFlags {s t : State} (h : SameOutsideCpu s t) (r : Shifted) :
    SameOutsideCpu s (t.setShiftFlags r) := h

/-! ### A write after an update of the CPU -/

/-- One bus write keeps two machines alike outside the CPU, because it reads no CPU register. -/
theorem SameOutsideCpu.memWrite {s t : State} (h : SameOutsideCpu s t) (a : Word) (v : Byte) :
    SameOutsideCpu (s.memWrite a v) (t.memWrite a v) := by
  obtain ⟨hcpu, -⟩ := s.memWrite_frame a v
  calc ({ t.memWrite a v with cpu := (s.memWrite a v).cpu } : State)
      = { t.memWrite a v with cpu := s.cpu } := by rw [hcpu]
    _ = ({ t with cpu := s.cpu } : State).memWrite a v := (t.memWrite_withCpu s.cpu a v).symm
    _ = s.memWrite a v := congrArg (State.memWrite · a v) h

/-- One bus write keeps every flag, because it keeps the CPU. -/
@[simp] theorem State.flag_memWrite (s : State) (a : Word) (v : Byte) (f : Flag) :
    (s.memWrite a v).flag f = s.flag f := by
  obtain ⟨hcpu, -⟩ := s.memWrite_frame a v
  exact State.flag_of_p (congrArg Cpu.p hcpu) f

/-! ### The mnemonics as shifts of the operand -/

/-- R271 to R274: each of the four mnemonics is one shift, that `shiftNumbers` gives in numbers, in the accumulator
form and in the memory form of R270. -/
theorem exec_eq_shift {i : Instr} (hi : i.mnemonic ∈ [Mnemonic.asl, .lsr, .rol, .ror]) (s : State) :
    ∃ shift : Byte → Bool → Shifted,
      exec i s = (if i.mode = .imp then shiftAccumulator shift s (i.baseCycles s.params.illegalCycles)
        else shiftMemory shift (s.locate i) (i.baseCycles s.params.illegalCycles)) ∧
      ∀ m c, (shift m c).value.toNat = (shiftNumbers i.mnemonic m.toNat c.toNat).1 ∧
        (shift m c).carry = (shiftNumbers i.mnemonic m.toNat c.toNat).2 := by
  simp only [List.mem_cons, List.not_mem_nil, or_false] at hi
  rcases hi with hm | hm | hm | hm
  · exact ⟨_, exec_asl hm s, hm ▸ shiftLeft_numbers⟩
  · exact ⟨_, exec_lsr hm s, hm ▸ shiftRight_numbers⟩
  · exact ⟨_, exec_rol hm s, hm ▸ rotateLeft_numbers⟩
  · exact ⟨_, exec_ror hm s, hm ▸ rotateRight_numbers⟩

/-- R271 to R274: no shift or rotate has the format IMM. -/
theorem mode_ne_imm_of_shift {i : Instr} (hi : i.mnemonic ∈ [Mnemonic.asl, .lsr, .rol, .ror]) : i.mode ≠ .imm := by
  have hmode : i.mode ∈ [Mode.imp, .zp0, .zpx, .abs, .abx] := by
    simp only [List.mem_cons, List.not_mem_nil, or_false] at hi
    rcases hi with hm | hm | hm | hm <;> exact mode_mem_documentedRows hm (by decide)
  exact fun h => absurd (h ▸ hmode) (by decide)

section
variable (shift : Byte → Bool → Shifted) (s : State) {i : Instr} (base : Nat)

/-- The accumulator form: the byte of the shift in `A`, and its three flags. -/
theorem shiftAccumulator_result :
    ∃ t, shiftAccumulator shift s base = .next t ∧ t.flag .c = (shift s.cpu.a (s.flag .c)).carry ∧
      CpuIs t (shift s.cpu.a (s.flag .c)).value s.cpu.x s.cpu.y s.cpu.s s.cpu.pc base ∧
      ZnOf t (shift s.cpu.a (s.flag .c)).value ∧ FlagsKeptBut [.c, .z, .n] s t ∧ SameOutsideCpu s t := by
  refine ⟨_, rfl, ?c, ⟨rfl, rfl, rfl, rfl, rfl, rfl⟩, ZnOf_setShiftFlags s _, ?kept, ?frame⟩
  case c => simp
  case kept => exact FlagsKeptBut.setShiftFlags (fun _ _ => rfl) _
  case frame => exact (((SameOutsideCpu.refl s).setShiftFlags _).setA _).charge _ _ _ _

/-- The memory form: the byte of the shift at the effective address, and its three flags. -/
theorem shiftMemory_result (hfetch : s.operand i = (s.locate i).fetch) :
    ∃ t, shiftMemory shift (s.locate i) base = .next t ∧
      t.flag .c = (shift (s.operand i).value (s.flag .c)).carry ∧
      CpuIs t s.cpu.a s.cpu.x s.cpu.y s.cpu.s s.cpu.pc base ∧
      ZnOf t (shift (s.operand i).value (s.flag .c)).value ∧ FlagsKeptBut [.c, .z, .n] s t ∧
      SameOutsideCpu
        ((s.operand i).state.memWrite (s.locate i).ea (shift (s.operand i).value (s.flag .c)).value) t := by
  rw [← s.operand_flag i, shiftMemory, ← hfetch]
  generalize shift (s.operand i).value ((s.operand i).state.flag .c) = r
  obtain ⟨hregs, hp, -⟩ :=
    memWrite_charge_result ((s.operand i).state.setShiftFlags r) (s.locate i).ea r.value base (s.locate i).crossed
  have hflag := State.flag_of_p hp
  refine ⟨_, rfl, ?c, ?regs, ?zn, ?kept, ?frame⟩
  case c => simp
  case regs => simpa [State.setShiftFlags] using hregs
  case zn => simpa [ZnOf] using ZnOf_setShiftFlags (s.operand i).state r
  case kept => exact fun f hf => (hflag f).trans ((FlagsKeptBut.operand _ s i).setShiftFlags r f hf)
  case frame => exact (((SameOutsideCpu.refl _).setShiftFlags r).memWrite _ _).charge _ _ _ _

end

/-- Settles O15: one shift for each mnemonic, in `A` or at the effective address. -/
theorem shiftResults : Obligations.ShiftResults := by
  refine ⟨rowsOf_documentedRows (m := .asl) (by decide), rowsOf_documentedRows (m := .lsr) (by decide),
    rowsOf_documentedRows (m := .rol) (by decide), rowsOf_documentedRows (m := .ror) (by decide), fun i s hi => ?_⟩
  obtain ⟨shift, hexec, hnumbers⟩ := exec_eq_shift hi s
  obtain ⟨hvalue, hcarry⟩ := hnumbers (s.operand i).value (s.flag .c)
  by_cases hmode : i.mode = .imp
  · have hoperand : (s.operand i).value = s.cpu.a := by simp only [State.operand, hmode]
    obtain ⟨t, ht, hc, hrest⟩ := shiftAccumulator_result shift s (i.baseCycles s.params.illegalCycles)
    rw [if_pos hmode, ht] at hexec
    rw [← hoperand] at hc hrest
    exact ⟨t, _, hexec, hvalue, hc.trans hcarry, by simpa only [if_pos hmode] using hrest⟩
  · have hfetch := s.operand_eq_fetch hmode (mode_ne_imm_of_shift hi)
    obtain ⟨t, ht, hc, hrest⟩ := shiftMemory_result shift s (i.baseCycles s.params.illegalCycles) hfetch
    rw [if_neg hmode, ht] at hexec
    exact ⟨t, _, hexec, hvalue, hc.trans hcarry, by simpa only [if_neg hmode] using hrest⟩

end Sys2Proof.Machine
end

section
/-! Branches (R280 to R288) and subroutines (R290, R291): the eight branches are one operation on eight conditions, and
RTS pulls the word that JSR pushed. -/

namespace Sys2Proof.Machine

/-! ### Branches -/

/-- R281 to R288: each of the eight instructions is `Branch` of R280 on the value of its flag. -/
theorem exec_eq_branch {s : State} {b : Byte} {i : Instr} {cond : Bool}
    (h : (i, cond) ∈ [(Instr.bcc b, !s.flag .c), (.bcs b, s.flag .c), (.beq b, s.flag .z), (.bne b, !s.flag .z),
      (.bpl b, !s.flag .n), (.bmi b, s.flag .n), (.bvc b, !s.flag .v), (.bvs b, s.flag .v)]) :
    exec i s = branch cond b s 2 := by
  simp only [List.mem_cons, List.not_mem_nil, or_false] at h
  rcases h with h | h | h | h | h | h | h | h <;> (cases h; rfl)

/-- Two addresses have the same high byte where they lie on the same page. -/
theorem highByte_eq_iff (a b : Word) : highByte a = highByte b ↔ a.toNat / 256 = b.toNat / 256 := by
  rw [← BitVec.toNat_inj, highByte_toNat, highByte_toNat]

/-- R280: a branch sets `PC` where it is taken, and `cyc`; one clock more for that, and one for another page. -/
theorem branch_result (cond : Bool) (b : Byte) (s : State) (base : Nat) :
    ∃ t, branch cond b s base = .next t ∧
      CpuIs t s.cpu.a s.cpu.x s.cpu.y s.cpu.s (if cond then relTarget s b else s.cpu.pc)
        (if cond then (if (relTarget s b).toNat / 256 = s.cpu.pc.toNat / 256 then base + 1 else base + 2) else base) ∧
      t.cpu.p = s.cpu.p ∧ SameOutsideCpu s t := by
  cases cond with
  | false => exact ⟨_, rfl, ⟨rfl, rfl, rfl, rfl, rfl, rfl⟩, rfl, rfl⟩
  | true =>
    refine ⟨_, rfl, ⟨rfl, rfl, rfl, rfl, rfl, ?cyc⟩, rfl, rfl⟩
    case cyc =>
      by_cases hpage : highByte (relTarget s b) = highByte s.cpu.pc
      · simp [hpage, (highByte_eq_iff _ _).mp hpage]
      · simp [hpage, (highByte_eq_iff _ _).not.mp hpage]

/-- Settles O16: one branch for each of the eight flag conditions. -/
theorem branchResults : Obligations.BranchResults := by
  refine ⟨rowsOf_documentedRows (m := .bcc) (by decide), rowsOf_documentedRows (m := .bcs) (by decide),
    rowsOf_documentedRows (m := .beq) (by decide), rowsOf_documentedRows (m := .bne) (by decide),
    rowsOf_documentedRows (m := .bpl) (by decide), rowsOf_documentedRows (m := .bmi) (by decide),
    rowsOf_documentedRows (m := .bvc) (by decide), rowsOf_documentedRows (m := .bvs) (by decide),
    fun s b i cond hi => ⟨relTarget s b, relTarget_toNat s b, ?_⟩⟩
  rw [exec_eq_branch hi]
  exact branch_result cond b s 2

/-! ### Subroutines -/

/-- R290: JSR pushes the address of its last byte and jumps. -/
theorem exec_jsr_eq (s : State) (w : Word) :
    exec (.jsr w) s = .next (((s.pushWord (s.cpu.pc - 1)).setPc w).setCyc 6) := rfl

/-- R291: RTS continues one past the word it pulls. -/
theorem exec_rts_eq (s : State) :
    exec .rts s = .next (((s.setS (s.cpu.s + 2)).setPc
      (wordOf (s.ram.read (256 + (s.cpu.s + 1).toNat)) (s.ram.read (256 + (s.cpu.s + 2).toNat)) + 1)).setCyc 6) := by
  calc exec .rts s = .next ((s.pullWord.state.setPc (s.pullWord.value + 1)).setCyc 6) := rfl
    _ = _ := by rw [State.pullWord_eq]

/-- A word pushed stands on the stack where the next pull of a word looks for it (R25, R290, R291). -/
theorem State.read_pushWord {s : State} (hwf : s.ram.wf 2048 = true) (w : Word) :
    (s.pushWord w).cpu.s = s.cpu.s - 2 ∧
    (s.pushWord w).ram.read (256 + (s.cpu.s - 1).toNat) = lowByte w ∧
    (s.pushWord w).ram.read (256 + s.cpu.s.toNat) = highByte w := by
  have hne : s.cpu.s ≠ s.cpu.s - 1 := by bv_omega
  simp only [s.pushWord_eq w, State.setS_s, State.setS_ram, State.setRam_ram]
  refine ⟨trivial, Memory.read_write_same _ (Memory.write_wf _ hwf (stackIndex_lt _)), ?_⟩
  rw [Memory.read_write_other _ _ (stackIndex_ne hne), Memory.read_write_same _ hwf]

/-- Settles O18: the effect of each from its stack operation, and RTS after JSR from the bytes that stand on the
stack. -/
theorem callAndReturnResults : Obligations.CallAndReturnResults := by
  refine ⟨rowsOf_documentedRows (m := .jsr) (by decide), rowsOf_documentedRows (m := .rts) (by decide),
    fun s w => ⟨_, exec_jsr_eq s w, ?call⟩,
    fun s => ⟨_, exec_rts_eq s, ⟨rfl, rfl, rfl, rfl, rfl, rfl⟩, rfl, rfl⟩, ?undo⟩
  case call =>
    rw [State.pushWord_eq]
    exact ⟨⟨rfl, rfl, rfl, rfl, rfl, rfl⟩, rfl, rfl, rfl, rfl⟩
  case undo =>
    intro s t u w hwf hcall hram hs
    rw [exec_jsr_eq] at hcall
    cases hcall
    obtain ⟨hsp, hlow, hhigh⟩ := State.read_pushWord hwf (s.cpu.pc - 1)
    have hsp : u.cpu.s = s.cpu.s - 2 := hs.trans hsp
    have hsp1 : u.cpu.s + 1 = s.cpu.s - 1 := by bv_omega
    have hsp2 : u.cpu.s + 2 = s.cpu.s := by bv_omega
    refine ⟨_, exec_rts_eq u, ?pc, hsp2⟩
    case pc =>
      calc wordOf (u.ram.read (256 + (u.cpu.s + 1).toNat)) (u.ram.read (256 + (u.cpu.s + 2).toNat)) + 1
          = wordOf (lowByte (s.cpu.pc - 1)) (highByte (s.cpu.pc - 1)) + 1 := by
            rw [hsp1, hsp2, hram]
            exact congrArg₂ (wordOf · · + 1) hlow hhigh
        _ = s.cpu.pc := by rw [wordOf_lowByte_highByte, BitVec.sub_add_cancel]

end Sys2Proof.Machine
end

section
/-! Stack, flag and system instructions (R300 to R315): what a push and a pull come to, and the frame that BRK and
interrupt entry leave on the stack, which RTI takes back. -/

namespace Sys2Proof.Machine

/-! ### One byte on the stack -/

/-- R300: the image that PHP and BRK push is `P` with bits 4 and 5 set. -/
theorem pushedP_true (p : Byte) : pushedP p true = p ||| 0x30 := by
  refine byte_eq_of_flags fun f => ?_
  rw [flagIn_pushedP]
  cases f <;> simp [flagIn, Flag.index]

/-- A push, then the cost of its instruction: one byte of the stack, `S`, `cyc`, and the latch (R25). -/
theorem push_charge_result (s : State) (v : Byte) (base : Nat) :
    CpuIs ((s.push v).charge base false false 0) s.cpu.a s.cpu.x s.cpu.y (s.cpu.s - 1) s.cpu.pc base ∧
    ((s.push v).charge base false false 0).cpu.p = s.cpu.p ∧
    ((s.push v).charge base false false 0).ram = s.ram.write (256 + s.cpu.s.toNat) v ∧
    ((s.push v).charge base false false 0).openBus = v ∧
    SameOutsideRam s ((s.push v).charge base false false 0) := by
  refine ⟨?_, ?_, ?_, ?_, ((SameOutsideRam.refl s).push v).charge base false false 0⟩ <;> rw [State.push_eq]
  · exact ⟨rfl, rfl, rfl, rfl, rfl, rfl⟩
  all_goals rfl

/-- R303: PLA puts the byte above `S` in `A` and describes it. -/
theorem exec_pla_eq {s : State} {v : Byte} (hv : v = s.ram.read (256 + (s.cpu.s + 1).toNat)) :
    exec .pla s = .next ((((s.setS (s.cpu.s + 1)).setA v).setZN v).charge 4 false false 0) := by
  calc exec .pla s = .next (((s.pull.state.setA s.pull.value).setZN s.pull.value).charge 4 false false 0) := rfl
    _ = _ := by rw [State.pull_eq, hv]

/-- R304: PLP loads the byte above `S` into `P`. -/
theorem exec_plp_eq {s : State} {v : Byte} (hv : v = s.ram.read (256 + (s.cpu.s + 1).toNat)) :
    exec .plp s = .next (((s.setS (s.cpu.s + 1)).setP (loadedP v)).charge 4 false false 0) := by
  calc exec .plp s = .next ((s.pull.state.setP (loadedP s.pull.value)).charge 4 false false 0) := rfl
    _ = _ := by rw [State.pull_eq, hv]

/-- Settles O19: PHA and PHP are one push, PLA and PLP one pull. -/
theorem stackResults : Obligations.StackResults := by
  refine ⟨rowsOf_documentedRows (m := .pha) (by decide), rowsOf_documentedRows (m := .php) (by decide),
    rowsOf_documentedRows (m := .pla) (by decide), rowsOf_documentedRows (m := .plp) (by decide),
    fun s i v hi => ⟨_, ?push, push_charge_result s v 3⟩,
    fun s v hv => ⟨⟨_, exec_pla_eq hv, ?pla⟩, _, exec_plp_eq hv, ?plp⟩⟩
  case push =>
    simp only [List.mem_cons, List.not_mem_nil, or_false] at hi
    rcases hi with h | h
    · cases h; rfl
    · cases h
      rw [← pushedP_true]
      rfl
  case pla =>
    have hout := ((SameOutsideCpu.refl s).setS (s.cpu.s + 1)).setA v
    exact setZN_charge_result _ rfl hout v 4 false false
  case plp => exact ⟨⟨rfl, rfl, rfl, rfl, rfl, rfl⟩, flagIn_loadedP v, rfl⟩

/-! ### One flag, or none -/

/-- R305 to R311: each of the seven instructions sets its flag to its value. -/
theorem exec_eq_setFlag {i : Instr} {f : Flag} {b : Bool} (s : State)
    (h : (i, f, b) ∈ [(Instr.clc, Flag.c, false), (.sec, .c, true), (.cli, .i, false), (.sei, .i, true),
      (.clv, .v, false), (.cld, .d, false), (.sed, .d, true)]) :
    exec i s = .next ((s.setFlag f b).charge 2 false false 0) := by
  simp only [List.mem_cons, List.not_mem_nil, or_false] at h
  rcases h with h | h | h | h | h | h | h <;> (cases h; rfl)

/-- Settles O20: each instruction is one update of one flag. -/
theorem flagInstructionResults : Obligations.FlagInstructionResults := by
  refine ⟨rowsOf_documentedRows (m := .clc) (by decide), rowsOf_documentedRows (m := .sec) (by decide),
    rowsOf_documentedRows (m := .cli) (by decide), rowsOf_documentedRows (m := .sei) (by decide),
    rowsOf_documentedRows (m := .clv) (by decide), rowsOf_documentedRows (m := .cld) (by decide),
    rowsOf_documentedRows (m := .sed) (by decide),
    fun s i f b hi => ⟨_, exec_eq_setFlag s hi, ⟨rfl, rfl, rfl, rfl, rfl, rfl⟩, s.flag_setFlag_same f b, ?kept, rfl⟩⟩
  case kept => exact FlagsKeptBut.setFlag (fun _ _ => rfl) List.mem_cons_self b

/-- Settles O21: each only pays its clocks. -/
theorem nopAndPlaceholderResults : Obligations.NopAndPlaceholderResults :=
  ⟨rowsOf_documentedRows (m := .nop) (by decide), fun _ => rfl, fun _ _ => ⟨rfl, rfl, rfl⟩⟩

/-! ### BRK and RTI -/

/-- R313: BRK enters from the address after the byte it skips. -/
theorem exec_brk_eq (s : State) :
    exec .brk s = .next ((s.setPc (s.cpu.pc + 1)).enterBreak.charge 7 false false 0) := rfl

/-- R313: BRK's entry continues at the word at 0xFFFE in the program memory, which its frame does not reach. -/
theorem State.enterBreak_eq (s : State) :
    ∃ lo hi, s.peek 0xFFFE = some lo ∧ s.peek 0xFFFF = some hi ∧
      s.enterBreak = ((s.pushFrame true).setFlag .i true).setPc (wordOf lo hi) := by
  have hcart : ((s.pushFrame true).setFlag .i true).cart = s.cart := by
    rw [State.pushFrame_eq]
    rfl
  obtain ⟨lo, hi, hlo, hhi, hload⟩ :=
    ((s.pushFrame true).setFlag .i true).loadVector_rom (a := 0xFFFE) (by decide) (by decide)
  rw [State.peek_rom_of_cart hcart (by decide)] at hlo hhi
  exact ⟨lo, hi, hlo, hhi, hload⟩

/-- Settles O22: the frame, then I, then the vector. -/
theorem breakResult : Obligations.BreakResult := by
  refine ⟨rowsOf_documentedRows (m := .brk) (by decide), fun s => ?_⟩
  obtain ⟨lo, hi, hlo, hhi, hentry⟩ := (s.setPc (s.cpu.pc + 1)).enterBreak_eq
  refine ⟨_, lo, hi, exec_brk_eq s, hlo, hhi, ?_⟩
  rw [hentry, State.pushFrame_eq, ← pushedP_true]
  refine ⟨⟨rfl, rfl, rfl, rfl, rfl, rfl⟩, State.flag_setFlag_same _ .i true, ?kept, rfl, rfl, rfl⟩
  case kept => exact FlagsKeptBut.setFlag (fun _ _ => rfl) List.mem_cons_self true

/-- R314: RTI loads the byte above `S` into `P` and the next two into `PC`. -/
theorem exec_rti_eq (s : State) :
    exec .rti s = .next ((((s.setS (s.cpu.s + 3)).setP (loadedP (s.ram.read (256 + (s.cpu.s + 1).toNat)))).setPc
      (wordOf (s.ram.read (256 + (s.cpu.s + 2).toNat)) (s.ram.read (256 + (s.cpu.s + 3).toNat)))).charge
        6 false false 0) := by
  rw [← State.returnFromInterrupt_eq]
  rfl

/-- Settles O23: the status of the first byte pulled, `PC` of the next two. -/
theorem returnFromInterruptResult : Obligations.ReturnFromInterruptResult :=
  ⟨rowsOf_documentedRows (m := .rti) (by decide),
    fun s => ⟨_, exec_rti_eq s, ⟨rfl, rfl, rfl, rfl, rfl, rfl⟩, flagIn_loadedP _, rfl⟩⟩

/-! ### RTI after an entry -/

/-- A frame pushed stands on the stack where RTI looks for it: the status image, then `PC` (R313, R314, R566). -/
theorem State.read_pushFrame {s : State} (hwf : s.ram.wf 2048 = true) (brk : Bool) :
    (s.pushFrame brk).cpu.s = s.cpu.s - 3 ∧
    (s.pushFrame brk).ram.read (256 + (s.cpu.s - 2).toNat) = pushedP s.cpu.p brk ∧
    (s.pushFrame brk).ram.read (256 + (s.cpu.s - 1).toNat) = lowByte s.cpu.pc ∧
    (s.pushFrame brk).ram.read (256 + s.cpu.s.toNat) = highByte s.cpu.pc := by
  have h01 : s.cpu.s ≠ s.cpu.s - 1 := by bv_omega
  have h02 : s.cpu.s ≠ s.cpu.s - 2 := by bv_omega
  have h12 : s.cpu.s - 1 ≠ s.cpu.s - 2 := by bv_omega
  have hwf1 := Memory.write_wf (highByte s.cpu.pc) hwf (stackIndex_lt s.cpu.s)
  have hwf2 := Memory.write_wf (lowByte s.cpu.pc) hwf1 (stackIndex_lt (s.cpu.s - 1))
  simp only [State.pushFrame_eq, State.setS_s, State.setS_ram, State.setRam_ram]
  refine ⟨trivial, Memory.read_write_same _ hwf2, ?low, ?high⟩
  case low => rw [Memory.read_write_other _ _ (stackIndex_ne h12), Memory.read_write_same _ hwf1]
  case high =>
    rw [Memory.read_write_other _ _ (stackIndex_ne h02), Memory.read_write_other _ _ (stackIndex_ne h01),
      Memory.read_write_same _ hwf]

/-- RTI with a frame on top of the stack gives back the `PC`, the status and the `S` of the machine that pushed it,
whichever entry it was: bit 4 of the image is ignored (R300). -/
theorem exec_rti_of_pushFrame {s u : State} {brk : Bool} (hwf : s.ram.wf 2048 = true) (hstatus : s.statusWf = true)
    (hram : u.ram = (s.pushFrame brk).ram) (hs : u.cpu.s = (s.pushFrame brk).cpu.s) :
    ∃ v, exec .rti u = .next v ∧ v.cpu.pc = s.cpu.pc ∧ v.cpu.p = s.cpu.p ∧ v.cpu.s = s.cpu.s := by
  obtain ⟨hframe, hp, hlow, hhigh⟩ := State.read_pushFrame hwf brk
  obtain ⟨hu, hb⟩ := s.statusWf_iff.mp hstatus
  have hsp : u.cpu.s = s.cpu.s - 3 := hs.trans hframe
  have hsp1 : u.cpu.s + 1 = s.cpu.s - 2 := by bv_omega
  have hsp2 : u.cpu.s + 2 = s.cpu.s - 1 := by bv_omega
  have hsp3 : u.cpu.s + 3 = s.cpu.s := by bv_omega
  have hrti := exec_rti_eq u
  rw [hsp1, hsp2, hsp3, hram, hp, hlow, hhigh, loadedP_pushedP hu hb, wordOf_lowByte_highByte] at hrti
  exact ⟨_, hrti, rfl, rfl, rfl⟩

/-- Reading a vector keeps RAM and `S`, wherever the vector is. -/
theorem State.loadVector_ram_s (s : State) (a : Word) :
    (s.loadVector a).ram = s.ram ∧ (s.loadVector a).cpu.s = s.cpu.s := by
  simp [State.loadVector, State.read16, State.readPair]

/-- Settles O33: both entries push a frame and keep it, interrupt entry from the interrupted machine and BRK from the
one past the byte it skips. -/
theorem interruptThenReturn : Obligations.InterruptThenReturn := by
  refine ⟨fun s u vector cost hwf hstatus hram hs => ?_, fun s t u hwf hstatus hbrk hram hs => ?_⟩
  · obtain ⟨hvram, hvs⟩ := (((s.pushFrame false).setFlag .b false).setFlag .i true).loadVector_ram_s vector
    exact exec_rti_of_pushFrame hwf hstatus (hram.trans hvram) (hs.trans hvs)
  · rw [exec_brk_eq] at hbrk
    cases hbrk
    obtain ⟨hvram, hvs⟩ :=
      (((s.setPc (s.cpu.pc + 1)).pushFrame true).setFlag .i true).loadVector_ram_s 0xFFFE
    exact exec_rti_of_pushFrame (s := s.setPc (s.cpu.pc + 1)) hwf hstatus (hram.trans hvram) (hs.trans hvs)

end Sys2Proof.Machine
end

section
/-! The controller ports (R365 to R367): what latches the shifters, and the bits that the reads shift out. -/

namespace Sys2Proof.Machine

/-- A read of 0x4016 is answered by the first shifter (R84, R367). -/
theorem State.memRead_port0 (s : State) : s.memRead 0x4016 = s.ctrlRead0 := by
  simp only [State.memRead, s.cart.cpuRead_low (show (0x4016 : Word) < 0x6000 by decide)]
  rfl

/-- A read of 0x4017 is answered by the second shifter (R84, R367). -/
theorem State.memRead_port1 (s : State) : s.memRead 0x4017 = s.ctrlRead1 := by
  simp only [State.memRead, s.cart.cpuRead_low (show (0x4017 : Word) < 0x6000 by decide)]
  rfl

/-- A write to 0x4016 latches both controllers, whatever it writes (R85, R366). -/
theorem State.memWrite_port0 (s : State) (v : Byte) : s.memWrite 0x4016 v = (s.noteWrite v).ctrlLatch := by
  simp only [State.memWrite, State.decodeWrite,
    (s.noteWrite v).cart.cpuWrite_low v (show (0x4016 : Word) < 0x6000 by decide)]
  rfl

/-- The bit that a port gives is the top bit of its shifter (R367). -/
theorem ctrlBit_toNat (v : Byte) : (ctrlBit v).toNat = v.toNat / 128 := by
  have hv := v.isLt
  have hbit : (bitAt 0 (v.getLsbD 7)).toNat = (v.getLsbD 7).toNat := by
    cases v.getLsbD 7 <;> rfl
  rw [ctrlBit, hbit, BitVec.getLsbD, Nat.toNat_testBit]
  omega

/-- The top bit after `n` shifts: the bits come out from bit 7 down, then zeros (R367). -/
theorem ctrlBit_shiftLeft (v : Byte) (n : Nat) :
    ctrlBit (v <<< n) = if n < 8 then bitAt 0 (v.getLsbD (7 - n)) else 0 := by
  rw [ctrlBit, BitVec.getLsbD_shiftLeft]
  split
  · next h =>
    have h7 : ¬7 < n := by omega
    simp [h7]
  · next h =>
    have h7 : 7 < n := by omega
    simp [h7, bitAt]

/-- Each read of the port shifts once (R367). -/
theorem State.memRead_port0_iterate (s : State) (n : Nat) :
    (fun t : State => (t.memRead 0x4016).state)^[n] s = s.setCtrlShift0 (s.ctrlShift0 <<< n) := by
  induction n with
  | zero =>
    rw [BitVec.shiftLeft_zero]
    rfl
  | succ n ih =>
    rw [Function.iterate_succ_apply', ih, BitVec.shiftLeft_add, State.memRead_port0]
    rfl

/-- Settles O30: a port's bit is the top bit of its shifter, and `n` reads after a latch have shifted the
controller's byte `n` times. -/
theorem controllerPorts : Obligations.ControllerPorts := by
  intro s v
  rw [s.memWrite_port0 v, s.memRead_port0, s.memRead_port1]
  refine ⟨rfl, rfl, ctrlBit_toNat _, rfl, ctrlBit_toNat _, rfl, fun n => ?_⟩
  rw [State.memRead_port0_iterate, State.memRead_port0]
  exact ctrlBit_shiftLeft s.controller0 n

end Sys2Proof.Machine
end

section
/-! The arbiter (R341, R567, R568, R570), case by case. -/

namespace Sys2Proof.Machine

/-- While I is set the IRQ half only clears the request, if there is one (R568). -/
theorem State.serviceIrq_of_masked {s : State} (h : s.flag .i = true) :
    s.serviceIrq = s.setCart { s.cart with irqState := false } := by
  cases hirq : s.cart.irqState with
  | true =>
    have hflag : (s.setCart s.cart.irqClear).flag .i = true := (State.flag_of_p rfl .i).trans h
    rw [State.serviceIrq, Cartridge.irqPending, if_pos hirq, State.raiseIrq, if_pos hflag]
    rfl
  | false =>
    rw [State.serviceIrq, Cartridge.irqPending, if_neg (by simp [hirq]), ← hirq]
    rfl

theorem State.serviceIrq_of_unmasked {s : State} (hirq : s.cart.irqState = true) (h : s.flag .i = false) :
    s.serviceIrq = (s.setCart { s.cart with irqState := false }).enterInterrupt 0xFFFE 7 := by
  have hflag : ¬(s.setCart s.cart.irqClear).flag .i = true := by
    rw [State.flag_of_p (t := s.setCart s.cart.irqClear) (s := s) rfl .i, h]
    exact Bool.false_ne_true
  rw [State.serviceIrq, Cartridge.irqPending, if_pos hirq, State.raiseIrq, if_neg hflag]
  rfl

theorem State.serviceIrq_of_none {s : State} (hirq : s.cart.irqState = false) : s.serviceIrq = s :=
  if_neg (by simp [Cartridge.irqPending, hirq])

/-- With no NMI request the arbiter is its IRQ half. -/
theorem State.arbiter_of_noNmi {s : State} (h : s.ppu.nmiPending = false) : s.arbiter = s.serviceIrq := by
  rw [State.arbiter, State.serviceNmi, if_neg (by simp [h])]

/-- An NMI is taken first, and its entry sets I, so that an IRQ beside it is lost (R567, R570). -/
theorem State.arbiter_of_nmi {s : State} (h : s.ppu.nmiPending = true) :
    s.arbiter = ((s.setPpu { s.ppu with nmiPending := false }).enterInterrupt 0xFFFA 8).setCart
      { s.cart with irqState := false } := by
  have hentry := (s.setPpu { s.ppu with nmiPending := false }).enterInterrupt_flag 0xFFFA 8 .i
  obtain ⟨-, -, -, -, hcart, -⟩ := (s.setPpu { s.ppu with nmiPending := false }).enterInterrupt_frame 0xFFFA 8
  rw [State.arbiter, State.serviceNmi, if_pos h, State.raiseNmi, State.serviceIrq_of_masked hentry, hcart]
  rfl

/-- Settles O32: the four cases are those of the two halves, the NMI's entry masking the IRQ's. -/
theorem arbiter : Obligations.Arbiter := by
  intro s
  refine ⟨State.arbiter_of_nmi, fun hnmi hirq hi => ?_, fun hnmi _ hi => ?_, fun hnmi hirq => ?_⟩
  · rw [State.arbiter_of_noNmi hnmi, State.serviceIrq_of_unmasked hirq hi]
  · rw [State.arbiter_of_noNmi hnmi, State.serviceIrq_of_masked hi]
  · rw [State.arbiter_of_noNmi hnmi, State.serviceIrq_of_none hirq]

end Sys2Proof.Machine
end

section
/-! The OAM transfer (R350 to R357): its sub-steps one by one, the slots that a transfer still takes, counted down
tick by tick, and the page that it copies. -/

namespace Sys2Proof.Machine

/-! ### The sub-steps -/

/-- A write to 0x4014 arms the controller (R85, R350). -/
theorem State.memWrite_dmaPort (s : State) (v : Byte) : s.memWrite 0x4014 v = (s.noteWrite v).dmaTrigger v := by
  simp only [State.memWrite, State.decodeWrite,
    (s.noteWrite v).cart.cpuWrite_low v (show (0x4014 : Word) < 0x6000 by decide)]
  rfl

/-- A waiting slot moves on at an odd count only (R352). -/
theorem State.dmaStep_of_wait {s : State} (h : s.dma.wait = true) :
    s.dmaStep = if s.clock % 2 = 1 then s.setDma { s.dma with wait := false } else s := by
  simp only [State.dmaStep, h, if_true, decide_eq_true_eq]

/-- A slot at an even count is the read half (R353). -/
theorem State.dmaStep_of_even {s : State} (hwait : s.dma.wait = false) (h : s.clock % 2 = 0) :
    s.dmaStep = (s.memRead s.dma.source).state.setDma { s.dma with data := (s.memRead s.dma.source).value } := by
  have hodd : ¬s.clock % 2 = 1 := by omega
  simp only [State.dmaStep, hwait, hodd, decide_false, Bool.false_eq_true, if_false, State.dmaRead,
    State.memRead_dma]

/-- The controller after its write half: idle again after index 0xFF (R355). -/
def Dma.afterWrite (d : Dma) : Dma :=
  { d with index := d.index + 1, enable := d.enable && d.index != 0xFF, wait := d.index == 0xFF }

theorem Dma.afterWrite_of_last {d : Dma} (h : d.index = 0xFF) :
    d.afterWrite = { d with index := 0, enable := false, wait := true } := by
  have hlast : (d.index == 0xFF) = true := beq_iff_eq.mpr h
  simp only [Dma.afterWrite, bne, hlast, Bool.not_true, Bool.and_false]
  rw [h]
  rfl

theorem Dma.afterWrite_of_more {d : Dma} (hwait : d.wait = false) (h : d.index ≠ 0xFF) :
    d.afterWrite = { d with index := d.index + 1 } := by
  have hmore : (d.index == 0xFF) = false := beq_false_of_ne h
  simp only [Dma.afterWrite, bne, hmore, Bool.not_false, Bool.and_true, hwait]

/-- A slot at an odd count is the write half (R354, R355). -/
theorem State.dmaStep_of_odd {s : State} (hwait : s.dma.wait = false) (h : s.clock % 2 = 1) :
    s.dmaStep =
      (s.setPpu { s.ppu with oam := s.ppu.oam.write s.dma.index.toNat s.dma.data }).setDma s.dma.afterWrite := by
  simp only [State.dmaStep, hwait, h, decide_true, Bool.false_eq_true, if_true, if_false, State.dmaWrite]
  split
  · next hlast =>
    have hindex : s.dma.index = 0xFF := by bv_omega
    rw [Dma.afterWrite_of_last hindex, hlast]
    rfl
  · next hmore =>
    have hindex : s.dma.index ≠ 0xFF := fun h => hmore (by rw [h]; rfl)
    rw [Dma.afterWrite_of_more hwait hindex]
    rfl

/-- A slot raises no interrupt request and takes none back (R353, R354). -/
theorem State.dmaStep_requests (s : State) :
    s.dmaStep.cart = s.cart ∧ s.dmaStep.ppu.nmiPending = s.ppu.nmiPending := by
  cases hwait : s.dma.wait with
  | true =>
    rw [State.dmaStep_of_wait hwait]
    split <;> exact ⟨rfl, rfl⟩
  | false =>
    rcases Nat.mod_two_eq_zero_or_one s.clock with heven | hodd
    · rw [State.dmaStep_of_even hwait heven]
      exact ⟨s.memRead_cart _, s.memRead_nmiPending _⟩
    · rw [State.dmaStep_of_odd hwait hodd]
      exact ⟨rfl, rfl⟩

/-- Settles O34: the trigger and the three kinds of slot. -/
theorem dmaSubSteps : Obligations.DmaSubSteps := by
  refine ⟨State.memWrite_dmaPort, fun s => State.dmaStep_of_wait, fun s a hwait heven ha => ?_,
    fun s hwait hodd => ?_⟩
  · have hsource : s.dma.source = a := BitVec.eq_of_toNat_eq (by rw [Dma.source, wordOf_toNat, ha])
    rw [State.dmaStep_of_even hwait heven, hsource]
  · rw [State.dmaStep_of_odd hwait hodd]
    exact ⟨rfl, rfl, rfl, rfl⟩

/-! ### The duration -/

/-- A controller whose next slot comes at the count `next` has a number of slots of its transfer left: none when it is
idle, all when it waits, and two for each byte when it runs, less a read half that is done (R352 to R356). -/
inductive Dma.SlotsLeft (d : Dma) (next : Nat) : Nat → Prop
  | idle (enable : d.enable = false) (wait : d.wait = true) (index : d.index = 0) : d.SlotsLeft next 0
  | waiting (enable : d.enable = true) (wait : d.wait = true) (index : d.index = 0) :
      d.SlotsLeft next (513 + (next + 1) % 2)
  | running (k : Nat) (enable : d.enable = true) (wait : d.wait = false)
      (left : k + 1 + 2 * d.index.toNat + next % 2 = 512) : d.SlotsLeft next (k + 1)

theorem Dma.SlotsLeft.enable_iff {d : Dma} {next k : Nat} (h : d.SlotsLeft next k) : d.enable = true ↔ 0 < k := by
  cases h with
  | idle enable => simp [enable]
  | waiting enable => simp [enable]
  | running _ enable => simp [enable]

theorem Dma.SlotsLeft.idle_of_zero {d : Dma} {next k : Nat} (h : d.SlotsLeft next k) (hk : k = 0) :
    d.enable = false ∧ d.wait = true ∧ d.index = 0 := by
  cases h with
  | idle enable wait index => exact ⟨enable, wait, index⟩
  | waiting => omega
  | running => omega

/-- A slot takes one from the slots left, and the next one comes three ticks later (R351 to R355). -/
theorem Dma.SlotsLeft.dmaStep {s : State} {k : Nat} (h : s.dma.SlotsLeft s.clock (k + 1)) :
    s.dmaStep.dma.SlotsLeft (s.clock + 3) k := by
  generalize hk : k + 1 = n at h
  cases h with
  | idle => omega
  | waiting enable wait index =>
    rw [State.dmaStep_of_wait wait]
    split
    · next hodd =>
      obtain rfl : k = 511 + 1 := by omega
      refine .running 511 enable rfl ?_
      have hindex : s.dma.index.toNat = 0 := congrArg BitVec.toNat index
      simp only [State.setDma_dma, hindex]
      omega
    · obtain rfl : k = 513 + (s.clock + 3 + 1) % 2 := by omega
      exact .waiting enable wait index
  | running j enable wait left =>
    obtain rfl : k = j := by omega
    have hindex := s.dma.index.isLt
    rcases Nat.mod_two_eq_zero_or_one s.clock with heven | hodd
    · rw [State.dmaStep_of_even wait heven]
      obtain ⟨i, rfl⟩ : ∃ i, k = i + 1 := ⟨k - 1, by omega⟩
      exact .running i enable wait (by simp only [State.setDma_dma]; omega)
    · rw [State.dmaStep_of_odd wait hodd]
      by_cases hlast : s.dma.index = 0xFF
      · obtain rfl : k = 0 := by bv_omega
        rw [Dma.afterWrite_of_last hlast]
        exact .idle rfl rfl rfl
      · have hnext : (s.dma.index + 1).toNat = s.dma.index.toNat + 1 := by bv_omega
        obtain ⟨i, rfl⟩ : ∃ i, k = i + 1 := ⟨k - 1, by bv_omega⟩
        rw [Dma.afterWrite_of_more wait hlast]
        exact .running i enable wait (by simp only [State.setDma_dma, hnext]; omega)

/-- A machine whose transfer ends in `m` ticks: CPU slots come at the counts that 3 divides (R342). -/
def State.TransferEndsIn (s : State) (m : Nat) : Prop :=
  ∃ k, m + (s.clock + 2) % 3 = 3 * k ∧ s.dma.SlotsLeft ((s.clock + 2) / 3 * 3) k

/-- The arbiter leaves the controller to its transfer (R357). -/
theorem State.arbiter_dma (s : State) : s.arbiter.dma = s.dma := by
  have entry (u : State) (vector : Word) (cost : Nat) : (u.enterInterrupt vector cost).dma = u.dma := by
    obtain ⟨-, -, -, -, -, h, -⟩ := u.enterInterrupt_frame vector cost
    exact h
  have hnmi : s.serviceNmi.dma = s.dma := by
    unfold State.serviceNmi
    split
    · exact entry _ _ _
    · rfl
  rw [← hnmi, State.arbiter, State.serviceIrq]
  split
  · unfold State.raiseIrq
    split
    · rfl
    · exact entry _ _ _
  · rfl

/-- The end of a tick leaves the controller alone and counts the tick (R345). -/
theorem State.endTick_dma_clock (s : State) : s.endTick.dma = s.dma ∧ s.endTick.clock = s.clock + 1 :=
  ⟨s.arbiter_dma, congrArg (· + 1) s.arbiter_interruptStep.clock⟩

/-- Every tick brings a transfer one tick nearer to its end, whatever interrupts come (R356). -/
theorem State.TransferEndsIn.step {s t : State} {m : Nat} (h : s.TransferEndsIn (m + 1)) (hs : step s = .next t) :
    t.TransferEndsIn m := by
  obtain ⟨k, hm, hk⟩ := h
  obtain ⟨hclock, -⟩ := step_clocks hs
  by_cases hslot : s.clock % 3 = 0
  · obtain ⟨j, rfl⟩ : ∃ j, k = j + 1 := ⟨k - 1, by omega⟩
    rw [step_of_dma hslot (hk.enable_iff.mpr (Nat.succ_pos j))] at hs
    cases hs
    have hnow : (s.clock + 2) / 3 * 3 = s.deviceClock.clock := by rw [s.deviceClock_clock]; omega
    rw [hnow, ← s.deviceClock_dma] at hk
    refine ⟨j, by omega, ?_⟩
    rw [(State.endTick_dma_clock _).1, hclock]
    have hnext : (s.clock + 1 + 2) / 3 * 3 = s.deviceClock.clock + 3 := by rw [s.deviceClock_clock]; omega
    rw [hnext]
    exact hk.dmaStep
  · rw [step_of_notCpuSlot hslot] at hs
    cases hs
    refine ⟨k, by omega, ?_⟩
    rw [(State.endTick_dma_clock _).1, hclock, s.deviceClock_dma]
    have hnext : (s.clock + 1 + 2) / 3 * 3 = (s.clock + 2) / 3 * 3 := by omega
    rwa [hnext]

/-- `n` ticks bring it `n` ticks nearer. -/
theorem State.TransferEndsIn.run {s t : State} {n m : Nat} (h : s.TransferEndsIn (m + n))
    (hrun : core.run n s = .next t) : t.TransferEndsIn m := by
  induction n generalizing s with
  | zero =>
    cases hrun
    exact h
  | succ n ih =>
    obtain ⟨u, hu⟩ := step_next s
    simp only [Host.Core.run, show core.step s = .next u from hu] at hrun
    exact ih (h.step hu) hrun

/-- A trigger's tick at the count `c` leaves 513 or 514 slots of ticks (R356). -/
theorem State.transferEndsIn_of_armed {s : State} {c : Nat} (hclock : s.clock = c + 1) (hc : c % 3 = 0)
    (henable : s.dma.enable = true) (hwait : s.dma.wait = true) (hindex : s.dma.index = 0) :
    s.TransferEndsIn (3 * (if c % 2 = 0 then 513 else 514)) := by
  have hnext : (s.clock + 2) / 3 * 3 = c + 3 := by omega
  have hslots : (if c % 2 = 0 then 513 else 514) = 513 + (c + 3 + 1) % 2 := by split <;> omega
  refine ⟨_, ?_, .waiting henable hwait hindex⟩
  rw [hnext, hslots]
  omega

/-- A tick of a transfer with no request for the arbiter to take leaves the CPU as it was (R357, R568). -/
theorem step_cpu_of_transfer {s t : State} (henable : s.dma.enable = true)
    (hnmi : s.deviceClock.ppu.nmiPending = false) (hirq : s.cart.irqState = false ∨ s.flag .i = true)
    (hs : step s = .next t) : t.cpu = s.cpu := by
  have arbiter_cpu (u : State) (hcpu : u.cpu = s.cpu) (hcart : u.cart = s.cart)
      (hu : u.ppu.nmiPending = false) : u.endTick.cpu = s.cpu := by
    refine Eq.trans ?_ hcpu
    change u.arbiter.cpu = u.cpu
    rw [State.arbiter_of_noNmi hu]
    rcases hirq with hnone | hmasked
    · rw [State.serviceIrq_of_none (hcart ▸ hnone)]
    · rw [State.serviceIrq_of_masked ((State.flag_of_p (congrArg Cpu.p hcpu) .i).trans hmasked)]
      rfl
  obtain ⟨hcpu, -, -, -, -, -, -, -, hdma, hcart, -⟩ := s.deviceClock_frame
  obtain ⟨u, rfl, ⟨-, rfl⟩ | ⟨-, -, rfl⟩ | ⟨-, hoff, -⟩⟩ := step_cases hs
  · exact arbiter_cpu _ hcpu hcart hnmi
  · obtain ⟨hstep, -⟩ := s.deviceClock.dmaStep_frame
    obtain ⟨hstepCart, hstepNmi⟩ := s.deviceClock.dmaStep_requests
    exact arbiter_cpu _ (hstep.trans hcpu) (hstepCart.trans hcart) (hstepNmi.trans hnmi)
  · rw [hdma, henable] at hoff
    cases hoff

/-- Settles O35: the ticks left of a transfer, counted down. -/
theorem dmaDuration : Obligations.DmaDuration := by
  refine ⟨fun s c hclock hc henable hwait hindex => ?_, fun s t => step_cpu_of_transfer⟩
  have harmed := State.transferEndsIn_of_armed hclock hc henable hwait hindex
  refine ⟨fun n t hn hrun => ?_, ?_⟩
  · obtain ⟨m, hm⟩ := Nat.exists_eq_add_of_lt hn
    rw [hm, show n + m + 1 = m + 1 + n by omega] at harmed
    obtain ⟨k, hk, hslots⟩ := harmed.run hrun
    exact hslots.enable_iff.mpr (by omega)
  · obtain ⟨t, ht⟩ := s.safeFor (3 * (if c % 2 = 0 then 513 else 514))
    rw [← Nat.zero_add (3 * _)] at harmed
    obtain ⟨k, hk, hslots⟩ := harmed.run ht
    exact ⟨t, ht, hslots.idle_of_zero (by omega)⟩

/-! ### The page copied -/

/-- The byte at place `i` of the source page, where that page is in RAM (R86, R353). -/
def State.pageByte (s : State) (i : Nat) : Byte := s.ram.read ((s.dma.page.toNat * 256 + i) % 2048)

/-- A memory with its first `n` bytes taken from `src`. -/
def Memory.copied (m : Memory) (src : Nat → Byte) : Nat → Memory
  | 0 => m
  | n + 1 => (m.copied src n).write n (src n)

theorem Memory.copied_wf {size n : Nat} {m : Memory} (h : m.wf size = true) (src : Nat → Byte) (hn : n ≤ size) :
    (m.copied src n).wf size = true := by
  induction n with
  | zero => exact h
  | succ n ih => exact Memory.write_wf _ (ih (Nat.le_of_succ_le hn)) hn

theorem Memory.read_copied {size n i : Nat} {m : Memory} (h : m.wf size = true) (src : Nat → Byte) (hn : n ≤ size)
    (hi : i < n) : (m.copied src n).read i = src i := by
  induction n with
  | zero => exact absurd hi (Nat.not_lt_zero i)
  | succ n ih =>
    rw [Memory.copied, Memory.read_write (Memory.copied_wf h src (Nat.le_of_succ_le hn))]
    split
    · next e => rw [e]
    · next e => exact ih (Nat.le_of_succ_le hn) (by omega)

/-- A slot of a transfer, and the three ticks to the next one. -/
def State.nextSlot (s : State) : State := s.dmaStep.setClock (s.clock + 3)

/-- The controller after `n` of the bytes that `src` gives, idle after all of them (R355). -/
def Dma.afterBytes (d : Dma) (src : Nat → Byte) (n : Nat) : Dma :=
  { enable := decide (n < 256), wait := decide (256 ≤ n), page := d.page, index := BitVec.ofNat 8 n,
    data := match n with
      | 0 => d.data
      | n + 1 => src n }

/-- The machine after `n` bytes of a transfer from RAM: two slots for each byte. -/
def State.afterBytes (s : State) (n : Nat) : State :=
  { s with clock := s.clock + 6 * n, dma := s.dma.afterBytes s.pageByte n,
           ppu := { s.ppu with oam := s.ppu.oam.copied s.pageByte n } }

theorem State.afterBytes_oam (s : State) (n : Nat) :
    (s.afterBytes n).ppu.oam = s.ppu.oam.copied s.pageByte n := rfl

/-- A transfer from RAM changes the count, the controller and OAM only. -/
theorem State.afterBytes_frame (s : State) {n ticks : Nat} {d : Dma} (hticks : 6 * n = ticks)
    (hdma : s.dma.afterBytes s.pageByte n = d) :
    s.afterBytes n = { s with clock := s.clock + ticks, dma := d,
                              ppu := { s.ppu with oam := (s.afterBytes n).ppu.oam } } := by
  subst hticks hdma
  rfl

/-- A read half and a write half copy one byte of the page (R353, R354). -/
theorem State.nextSlot_nextSlot {s : State} (hwait : s.dma.wait = false) (heven : s.clock % 2 = 0)
    (hpage : s.dma.page.toNat < 0x20) :
    s.nextSlot.nextSlot =
      { s with clock := s.clock + 6
               dma := { s.dma with data := s.pageByte s.dma.index.toNat }.afterWrite
               ppu := { s.ppu with
                        oam := s.ppu.oam.write s.dma.index.toNat (s.pageByte s.dma.index.toNat) } } := by
  have hindex := s.dma.index.isLt
  have hsource : s.dma.source ≤ 0x1FFF := by
    rw [BitVec.le_def, Dma.source, wordOf_toNat]
    change _ ≤ 8191
    omega
  have hbyte : s.ram.read (ramIndex s.dma.source) = s.pageByte s.dma.index.toNat := by
    rw [State.pageByte, ramIndex_toNat, Dma.source, wordOf_toNat]
  have hread : s.nextSlot =
      (s.setDma { s.dma with data := s.pageByte s.dma.index.toNat }).setClock (s.clock + 3) := by
    rw [State.nextSlot, State.dmaStep_of_even hwait heven, s.memRead_ram hsource, hbyte]
  generalize hu : s.nextSlot = u
  rw [hread] at hu
  have hodd : u.clock % 2 = 1 := by
    rw [← hu, State.setClock_clock]
    omega
  have hwait' : u.dma.wait = false := by
    rw [← hu]
    exact hwait
  rw [State.nextSlot, State.dmaStep_of_odd hwait' hodd]
  subst hu
  rfl

theorem Dma.afterBytes_zero {d : Dma} (src : Nat → Byte) (henable : d.enable = true) (hwait : d.wait = false)
    (hindex : d.index = 0) : d.afterBytes src 0 = d := by
  obtain ⟨enable, wait, page, index, data⟩ := d
  simp only at henable hwait hindex
  subst henable hwait hindex
  rfl

/-- The write half of byte `n` leaves the controller at the next byte. -/
theorem Dma.afterBytes_succ (d : Dma) (src : Nat → Byte) {n : Nat} (h : n < 256) :
    { d.afterBytes src n with data := src n }.afterWrite = d.afterBytes src (n + 1) := by
  have hindex : (d.afterBytes src n).index.toNat = n := Nat.mod_eq_of_lt h
  have hwait : (d.afterBytes src n).wait = false := decide_eq_false (by omega)
  rcases Nat.lt_or_eq_of_le (Nat.succ_le_of_lt h) with hmore | hlast
  · rw [Dma.afterWrite_of_more (d := { d.afterBytes src n with data := src n }) hwait (by bv_omega)]
    simp only [Dma.afterBytes, BitVec.ofNat_add, h, hmore, Nat.not_le_of_lt h, Nat.not_le_of_lt hmore]
    rfl
  · obtain rfl : n = 255 := by omega
    exact Dma.afterWrite_of_last rfl

theorem Dma.afterBytes_all (d : Dma) (src : Nat → Byte) :
    d.afterBytes src 256 = { enable := false, wait := true, page := d.page, index := 0, data := src 255 } := rfl

/-- `2 * n` slots copy `n` bytes. -/
theorem State.nextSlot_iterate {s : State} (heven : s.clock % 2 = 0) (henable : s.dma.enable = true)
    (hwait : s.dma.wait = false) (hindex : s.dma.index = 0) (hpage : s.dma.page.toNat < 0x20) {n : Nat}
    (hn : n ≤ 256) : State.nextSlot^[2 * n] s = s.afterBytes n := by
  induction n with
  | zero =>
    rw [State.afterBytes, Dma.afterBytes_zero s.pageByte henable hwait hindex]
    rfl
  | succ n ih =>
    have hwait' : (s.afterBytes n).dma.wait = false := decide_eq_false (by omega)
    have heven' : (s.afterBytes n).clock % 2 = 0 := by
      change (s.clock + 6 * n) % 2 = 0
      omega
    have hindex' : (s.afterBytes n).dma.index.toNat = n := Nat.mod_eq_of_lt (by omega)
    have hdma : { (s.afterBytes n).dma with data := s.pageByte n }.afterWrite = s.dma.afterBytes s.pageByte (n + 1) :=
      s.dma.afterBytes_succ s.pageByte (by omega)
    rw [Nat.mul_succ, Function.iterate_succ_apply', Function.iterate_succ_apply', ih (Nat.le_of_succ_le hn),
      State.nextSlot_nextSlot hwait' heven' hpage, hindex', show (s.afterBytes n).pageByte = s.pageByte from rfl, hdma]
    rfl

/-- Settles O36: two slots copy a byte, and 256 bytes are the page. -/
theorem dmaCopiesPage : Obligations.DmaCopiesPage := by
  intro s hwf heven henable hwait hindex hpage
  have hcopied : State.nextSlot^[512] s = s.afterBytes 256 :=
    State.nextSlot_iterate heven henable hwait hindex hpage (n := 256) le_rfl
  refine ⟨s.afterBytes 256, hcopied, fun i hi => ?_, ?_, ?_⟩
  · rw [s.afterBytes_oam]
    exact Memory.read_copied hwf s.pageByte le_rfl hi
  · rw [s.afterBytes_oam]
    exact Memory.copied_wf hwf s.pageByte le_rfl
  · exact s.afterBytes_frame rfl (s.dma.afterBytes_all s.pageByte)

end Sys2Proof.Machine
end

section
/-! Vertical blank (R420, R421): where the status bits are cleared and set, and the NMI of the same tick (R341). -/

namespace Sys2Proof.Machine

/-- The pipeline's operations keep VerticalBlank; only `ClearStatus` and `VblankEntry` touch it (R420, R421). -/
def KeepsVblank (f : State → State) : Prop := ∀ s : State, (f s).ppu.vblank = s.ppu.vblank

theorem KeepsVblank.onlyIf {f : State → State} (hf : KeepsVblank f) (c : Bool) : KeepsVblank (·.onlyIf c f) :=
  fun s => State.onlyIf_cases (P := fun t => t.ppu.vblank = s.ppu.vblank) rfl (hf s)

theorem KeepsVblank.comp {f g : State → State} (hg : KeepsVblank g) (hf : KeepsVblank f) :
    KeepsVblank fun s => g (f s) :=
  fun s => (hg (f s)).trans (hf s)

theorem keepsVblank_shiftBg : KeepsVblank (·.onPpu Ppu.shiftBg) := by
  intro s
  simp only [State.onPpu, Ppu.shiftBg]
  split <;> rfl

theorem keepsVblank_loadShifters : KeepsVblank (·.onPpu Ppu.loadShifters) := by
  intro s
  simp only [State.onPpu, Ppu.loadShifters]
  split <;> rfl

theorem keepsVblank_incX : KeepsVblank (·.onPpu Ppu.incX) := by
  intro s
  simp only [State.onPpu, Ppu.incX]
  split
  · split <;> rfl
  · rfl

theorem keepsVblank_incY : KeepsVblank (·.onPpu Ppu.incY) := by
  intro s
  simp only [State.onPpu, Ppu.incY]
  repeat' split
  all_goals rfl

theorem keepsVblank_transferX : KeepsVblank (·.onPpu Ppu.transferX) := by
  intro s
  simp only [State.onPpu, Ppu.transferX]
  split <;> rfl

theorem keepsVblank_transferY : KeepsVblank (·.onPpu Ppu.transferY) := by
  intro s
  simp only [State.onPpu, Ppu.transferY]
  split <;> rfl

theorem keepsVblank_fetchNt : KeepsVblank State.fetchNt := fun _ => rfl

theorem keepsVblank_subStep : KeepsVblank State.subStep := by
  intro s
  unfold State.subStep
  split
  · exact keepsVblank_fetchNt.comp keepsVblank_loadShifters s
  · rfl
  · rfl
  · rfl
  · exact keepsVblank_incX s
  · rfl

/-- Away from cycle 1 of the pre-render line, the work of a scanline keeps VerticalBlank (R395). -/
theorem State.scanlineWork_vblank {s : State} (h : ¬(s.ppu.scanline = -1 ∧ s.ppu.cycle = 1)) :
    s.scanlineWork.ppu.vblank = s.ppu.vblank := by
  have hclear : (decide (s.ppu.scanline = -1) && s.ppu.cycle == 1) = false := by
    rwa [Bool.and_eq_false_iff, decide_eq_false_iff_not, beq_eq_false_iff_ne, ← not_and_or]
  simp only [State.scanlineWork, hclear, State.onlyIf_false]
  have hfetch := (keepsVblank_subStep.comp keepsVblank_shiftBg).onlyIf (inFetchWindow s.ppu.cycle)
  have hvertical := (keepsVblank_incY.onlyIf (s.ppu.cycle == 256)).comp hfetch
  have hreload :=
    ((keepsVblank_transferX.comp keepsVblank_loadShifters).onlyIf (s.ppu.cycle == 257)).comp hvertical
  have hname := (keepsVblank_fetchNt.onlyIf (s.ppu.cycle == 338 || s.ppu.cycle == 340)).comp hreload
  exact (keepsVblank_transferY.onlyIf _).comp hname s

/-- At cycle 1 of the pre-render line the work of R395 is `ClearStatus`. -/
theorem State.scanlineWork_clearStatus {s : State} (hline : s.ppu.scanline = -1) (hcycle : s.ppu.cycle = 1) :
    s.scanlineWork = s.onPpu Ppu.clearStatus := by
  simp only [State.scanlineWork, hline, hcycle]
  rfl

/-- After the scanline's work, a clock step only sets VerticalBlank, at scanline 241, cycle 1 (R395, R421). -/
theorem State.ppuClock_status {s u : State} (hu : s.onlyIf s.ppu.onRenderLine State.scanlineWork = u) :
    s.ppuClock.ppu.vblank = (u.ppu.vblank || (decide (s.ppu.scanline = 241) && s.ppu.cycle == 1)) ∧
    s.ppuClock.ppu.sprite0 = u.ppu.sprite0 ∧ s.ppuClock.ppu.overflow = u.ppu.overflow := by
  have h : PipelineOnly s u := hu ▸ (PipelineOnly.refl s).onlyIf PipelineOnly.scanlineWork
  rw [← h.scanline, ← h.cycle, State.ppuClock, hu, State.vblankEntry_eq]
  generalize hv : u.setPpu _ = v
  have hpixel := v.emitPixel_cases
  generalize v.onlyIf v.ppu.onVisiblePixel State.emitPixel = w at hpixel
  simp only [State.onPpu, Ppu.advanceCounters_eq]
  obtain rfl | ⟨k, c, -, -, rfl⟩ := hpixel <;> subst hv <;> exact ⟨rfl, rfl, rfl⟩

/-- Interrupt entry at a vector in PRG ROM (R566): the frame, B and I, then `PC` from the vector. -/
theorem State.enterInterrupt_eq (s : State) {vector : Word} (h : 0x8000 ≤ vector) (h' : 0x8000 ≤ vector + 1)
    (cost : Nat) :
    ∃ lo hi, s.peek vector = some lo ∧ s.peek (vector + 1) = some hi ∧
      s.enterInterrupt vector cost =
        ((((s.pushFrame false).setFlag .b false).setFlag .i true).setPc (wordOf lo hi)).setCyc cost := by
  have hcart : (((s.pushFrame false).setFlag .b false).setFlag .i true).cart = s.cart := by
    rw [State.pushFrame_eq]
    rfl
  obtain ⟨lo, hi, hlo, hhi, hload⟩ :=
    (((s.pushFrame false).setFlag .b false).setFlag .i true).loadVector_rom h h'
  rw [State.peek_rom_of_cart hcart h] at hlo
  rw [State.peek_rom_of_cart hcart h'] at hhi
  exact ⟨lo, hi, hlo, hhi, by rw [State.enterInterrupt, hload]⟩

/-- The arbiter's NMI entry continues at the word at 0xFFFA, 8 clocks later, with I set and the request consumed
(R566, R567). -/
theorem State.arbiter_enters_nmi {s : State} (h : s.ppu.nmiPending = true) :
    ∃ lo hi, s.peek 0xFFFA = some lo ∧ s.peek 0xFFFB = some hi ∧
      s.arbiter.cpu.pc = wordOf lo hi ∧ s.arbiter.cpu.s = s.cpu.s - 3 ∧ s.arbiter.cpu.cyc = 8 ∧
      s.arbiter.flag .i = true ∧ s.arbiter.ppu.vblank = s.ppu.vblank ∧ s.arbiter.ppu.nmiPending = false := by
  have hcart : (s.setPpu { s.ppu with nmiPending := false }).cart = s.cart := rfl
  obtain ⟨lo, hi, hlo, hhi, hentry⟩ := (s.setPpu { s.ppu with nmiPending := false }).enterInterrupt_eq
    (vector := 0xFFFA) (by decide) (by decide) 8
  rw [State.peek_rom_of_cart hcart (by decide)] at hlo hhi
  rw [State.arbiter_of_nmi h, hentry, State.pushFrame_eq]
  exact ⟨lo, hi, hlo, hhi, rfl, rfl, rfl, State.flag_setFlag_same _ .i true, rfl, rfl⟩

/-- A tick that is not a CPU slot enters the NMI that its picture step requests (R341, R562). -/
theorem step_enters_nmi {s : State} (hslot : s.clock % 3 ≠ 0) (hnmi : s.ppuClock.ppu.nmiPending = true) :
    ∃ (t : State) (lo hi : Byte), step s = .next t ∧ s.peek 0xFFFA = some lo ∧ s.peek 0xFFFB = some hi ∧
      t.cpu.pc = wordOf lo hi ∧ t.cpu.s = s.cpu.s - 3 ∧ t.cpu.cyc = 8 ∧ t.flag .i = true ∧
      t.ppu.vblank = s.ppuClock.ppu.vblank ∧ t.ppu.nmiPending = false := by
  obtain ⟨hcpu, hram, -, -, -, -, -, -, -, hcart, -⟩ := s.deviceClock_frame
  obtain ⟨lo, hi, hlo, hhi, hentry⟩ := State.arbiter_enters_nmi (s := s.deviceClock) hnmi
  rw [State.peek_of_ram_cart hram hcart] at hlo hhi
  rw [hcpu] at hentry
  exact ⟨_, lo, hi, step_of_notCpuSlot hslot, hlo, hhi, hentry⟩

/-- Settles O38: the status bits after a clock step, its request, and the entry of the same tick. -/
theorem verticalBlank : Obligations.VerticalBlank := by
  have entry (s : State) (hline : s.ppu.scanline = 241) (hcycle : s.ppu.cycle = 1) :
      s.ppuClock.ppu.vblank = true ∧
      s.ppuClock.ppu.nmiPending = (s.ppu.nmiPending || s.ppu.control.getLsbD 7) := by
    obtain ⟨hvblank, -⟩ := s.ppuClock_status rfl
    rw [hvblank, s.ppuClock_step.nmiPending, hline, hcycle]
    exact ⟨Bool.or_true _, rfl⟩
  refine ⟨entry, fun s hline hcycle => ?_, fun s hset hclear => ?_, fun s hline hcycle henable hslot => ?_⟩
  · have hrender : s.ppu.onRenderLine = true := by rw [Ppu.onRenderLine, hline]; rfl
    obtain ⟨hvblank, hsprite, hoverflow⟩ :=
      State.ppuClock_status (s := s) (by rw [hrender, State.onlyIf_true, State.scanlineWork_clearStatus hline hcycle])
    rw [hvblank, hsprite, hoverflow, hline]
    exact ⟨rfl, rfl, rfl⟩
  · have hwork : (s.onlyIf s.ppu.onRenderLine State.scanlineWork).ppu.vblank = s.ppu.vblank :=
      State.onlyIf_cases (P := fun t => t.ppu.vblank = s.ppu.vblank) rfl (State.scanlineWork_vblank hclear)
    have hnot : (decide (s.ppu.scanline = 241) && s.ppu.cycle == 1) = false := by
      rwa [Bool.and_eq_false_iff, decide_eq_false_iff_not, beq_eq_false_iff_ne, ← not_and_or]
    obtain ⟨hvblank, -⟩ := s.ppuClock_status rfl
    rw [hvblank, hwork, s.ppuClock_step.nmiPending, hnot, Bool.false_and, Bool.or_false, Bool.or_false]
    exact ⟨rfl, rfl⟩
  · obtain ⟨hvblank, hnmi⟩ := entry s hline hcycle
    rw [henable, Bool.or_true] at hnmi
    have hentry := step_enters_nmi hslot hnmi
    rwa [hvblank] at hentry

end Sys2Proof.Machine
end

section
/-! The clock step of the picture unit after the scanline's work (R395, R396): the counters. -/

namespace Sys2Proof.Machine

/-- After the scanline's work, a clock step touches the status, the request and the frame, then advances the counters
(R395). -/
theorem State.ppuClock_ppu {s u : State} (hu : s.onlyIf s.ppu.onRenderLine State.scanlineWork = u) :
    ∃ b n f, s.ppuClock.ppu =
      ({ u.ppu with vblank := b, nmiPending := n, frame := f } : Ppu).advanceCounters := by
  rw [State.ppuClock, hu, State.vblankEntry_eq]
  generalize hv : u.setPpu _ = v
  have hpixel := v.emitPixel_cases
  generalize v.onlyIf v.ppu.onVisiblePixel State.emitPixel = w at hpixel
  obtain rfl | ⟨k, c, -, -, rfl⟩ := hpixel <;> subst hv <;> exact ⟨_, _, _, rfl⟩

theorem State.ppuClock_frameComplete (s : State) :
    s.ppuClock.ppu.frameComplete =
      (s.ppu.frameComplete || (decide (s.ppu.cycle + 1 = 341) && decide (s.ppu.scanline + 1 = 261))) := by
  obtain ⟨b, n, f, h⟩ := s.ppuClock_ppu rfl
  have hwork : PipelineOnly s (s.onlyIf s.ppu.onRenderLine State.scanlineWork) :=
    (PipelineOnly.refl s).onlyIf PipelineOnly.scanlineWork
  rw [h, Ppu.advanceCounters_eq, ← hwork.frameComplete, ← hwork.cycle, ← hwork.scanline]

/-- Settles O37: the counters after a step, and their place in the frame as one number. -/
theorem ppuCounters : Obligations.PpuCounters := by
  intro s
  have hcycle := s.ppuClock_step.cycle
  have hline := s.ppuClock_step.scanline
  refine ⟨hcycle, hline, s.ppuClock_frameComplete, fun h1 h2 h3 => ?_⟩
  rw [hcycle, hline]
  split_ifs <;> push_cast <;> omega

end Sys2Proof.Machine
end

section
/-! The scroll updates (R415 to R418), and the cycles of a line that run them (R395). -/

namespace Sys2Proof.Machine

/-! ### The four updates -/

/-- R415: the horizontal position steps, and a wrap changes the nametable bit. -/
theorem Ppu.incX_fields {p : Ppu} (h : p.rendering = true) :
    ∃ v, p.incX = { p with vram := v } ∧
      (coarseX v).toNat = ((coarseX p.vram).toNat + 1) % 32 ∧
      ntX v = (ntX p.vram ^^ decide ((coarseX p.vram).toNat = 31)) ∧
      coarseY v = coarseY p.vram ∧ ntY v = ntY p.vram ∧ fineY v = fineY p.vram := by
  rw [Ppu.incX, if_pos h]
  have hlast : coarseX p.vram = 31 ↔ (coarseX p.vram).toNat = 31 := by bv_omega
  split
  · next hx => exact ⟨_, rfl, by simp [hlast.mp hx]⟩
  · next hx => exact ⟨_, rfl, by simp [hlast.not.mp hx, BitVec.toNat_add]⟩

/-- R416: the vertical position steps by a pixel row, then by a tile row, with a wrap after tile row 29 or 31. -/
theorem Ppu.incY_fields {p : Ppu} (h : p.rendering = true) :
    ∃ v, p.incY = { p with vram := v } ∧
      (fineY v).toNat = ((fineY p.vram).toNat + 1) % 8 ∧
      (coarseY v).toNat =
        (if (fineY p.vram).toNat < 7 then (coarseY p.vram).toNat
         else if (coarseY p.vram).toNat = 29 then 0 else ((coarseY p.vram).toNat + 1) % 32) ∧
      ntY v = (ntY p.vram ^^ (decide ((fineY p.vram).toNat = 7) && decide ((coarseY p.vram).toNat = 29))) ∧
      coarseX v = coarseX p.vram ∧ ntX v = ntX p.vram := by
  have hfine := (fineY p.vram).isLt
  simp only [Ppu.incY, if_pos h, coarseY_withFineY, ntY_withFineY]
  by_cases hrow : fineY p.vram = 7
  · have hlast : (fineY p.vram).toNat = 7 := congrArg BitVec.toNat hrow
    rw [if_neg (not_not.mpr hrow)]
    split
    · next hy => exact ⟨_, rfl, by simp [hlast, hy]⟩
    next h29 =>
    have hne : (coarseY p.vram).toNat ≠ 29 := by bv_omega
    split
    · next hy => exact ⟨_, rfl, by simp [hlast, hy]⟩
    · exact ⟨_, rfl, by simp [hlast, hne, BitVec.toNat_add]⟩
  · have hlt : (fineY p.vram).toNat < 7 := by bv_omega
    rw [if_pos hrow]
    exact ⟨_, rfl, by simp [hlt, hlt.ne, BitVec.toNat_add]⟩

/-- R417, R418: the copies take their fields from `tram`. -/
theorem Ppu.transfer_fields {p : Ppu} (h : p.rendering = true) :
    (∃ v, p.transferX = { p with vram := v } ∧ coarseX v = coarseX p.tram ∧ ntX v = ntX p.tram ∧
      coarseY v = coarseY p.vram ∧ ntY v = ntY p.vram ∧ fineY v = fineY p.vram) ∧
    ∃ v, p.transferY = { p with vram := v } ∧ coarseY v = coarseY p.tram ∧ ntY v = ntY p.tram ∧
      fineY v = fineY p.tram ∧ coarseX v = coarseX p.vram ∧ ntX v = ntX p.vram := by
  rw [Ppu.transferX, Ppu.transferY, if_pos h, if_pos h]
  exact ⟨⟨_, rfl, by simp⟩, _, rfl, by simp⟩

/-- R398, D41: with rendering off the updates do nothing. -/
theorem Ppu.scroll_off {p : Ppu} (h : p.rendering = false) :
    p.incX = p ∧ p.incY = p ∧ p.transferX = p ∧ p.transferY = p := by
  have hoff : ¬p.rendering = true := by simp [h]
  exact ⟨if_neg hoff, if_neg hoff, if_neg hoff, if_neg hoff⟩

/-! ### What the updates depend on -/

/-- Two picture units that scroll alike: `vram`, `tram` and the mask are the same. -/
def Ppu.SameScroll (p q : Ppu) : Prop := q.vram = p.vram ∧ q.tram = p.tram ∧ q.mask = p.mask

namespace Ppu.SameScroll

variable {p q : Ppu}

theorem rendering (h : p.SameScroll q) : q.rendering = p.rendering := by
  obtain ⟨-, -, hmask⟩ := h
  rw [Ppu.rendering, Ppu.showBg, Ppu.showSprites, hmask]
  rfl

theorem incX (h : p.SameScroll q) : p.incX.SameScroll q.incX := by
  have hrender := h.rendering
  obtain ⟨hvram, htram, hmask⟩ := h
  rw [Ppu.incX, Ppu.incX, hrender, hvram]
  split
  · split <;> exact ⟨rfl, htram, hmask⟩
  · exact ⟨hvram, htram, hmask⟩

theorem incY (h : p.SameScroll q) : p.incY.SameScroll q.incY := by
  have hrender := h.rendering
  obtain ⟨hvram, htram, hmask⟩ := h
  simp only [Ppu.incY, hrender, hvram]
  split
  · split
    · exact ⟨rfl, htram, hmask⟩
    split
    · exact ⟨rfl, htram, hmask⟩
    split <;> exact ⟨rfl, htram, hmask⟩
  · exact ⟨hvram, htram, hmask⟩

theorem transferX (h : p.SameScroll q) : p.transferX.SameScroll q.transferX := by
  have hrender := h.rendering
  obtain ⟨hvram, htram, hmask⟩ := h
  rw [Ppu.transferX, Ppu.transferX, hrender, hvram, htram]
  split
  · exact ⟨rfl, rfl, hmask⟩
  · exact ⟨hvram, htram, hmask⟩

theorem transferY (h : p.SameScroll q) : p.transferY.SameScroll q.transferY := by
  have hrender := h.rendering
  obtain ⟨hvram, htram, hmask⟩ := h
  rw [Ppu.transferY, Ppu.transferY, hrender, hvram, htram]
  split
  · exact ⟨rfl, rfl, hmask⟩
  · exact ⟨hvram, htram, hmask⟩

theorem trans {r : Ppu} (h : p.SameScroll q) (k : q.SameScroll r) : p.SameScroll r := by
  obtain ⟨hvram, htram, hmask⟩ := h
  obtain ⟨kvram, ktram, kmask⟩ := k
  exact ⟨kvram.trans hvram, ktram.trans htram, kmask.trans hmask⟩

theorem shiftBg (p : Ppu) : p.SameScroll p.shiftBg := by
  unfold Ppu.shiftBg
  split <;> exact ⟨rfl, rfl, rfl⟩

theorem loadShifters (p : Ppu) : p.SameScroll p.loadShifters := by
  unfold Ppu.loadShifters
  split <;> exact ⟨rfl, rfl, rfl⟩

end Ppu.SameScroll

/-- The fetch sub-step of phase 7 is the horizontal update (R402). -/
theorem State.subStep_incX {s : State} (h : (s.ppu.cycle - 1) % 8 = 7) : s.subStep = s.onPpu Ppu.incX := by
  simp only [State.subStep, h]

/-- No other fetch sub-step scrolls (R402). -/
theorem State.subStep_sameScroll {s : State} (h : (s.ppu.cycle - 1) % 8 ≠ 7) : s.ppu.SameScroll s.subStep.ppu := by
  unfold State.subStep
  split
  · exact Ppu.SameScroll.loadShifters s.ppu
  · exact ⟨rfl, rfl, rfl⟩
  · exact ⟨rfl, rfl, rfl⟩
  · exact ⟨rfl, rfl, rfl⟩
  · contradiction
  · exact ⟨rfl, rfl, rfl⟩

/-! ### The work of a line inside and outside the fetch windows -/

/-- The fetch windows, in numbers (R395). -/
theorem inFetchWindow_iff (cycle : Nat) :
    inFetchWindow cycle = true ↔ (2 ≤ cycle ∧ cycle ≤ 257) ∨ (321 ≤ cycle ∧ cycle ≤ 337) := by
  simp only [inFetchWindow, Bool.or_eq_true, Bool.and_eq_true, decide_eq_true_eq]

theorem Ppu.onRenderLine_iff (p : Ppu) : p.onRenderLine = true ↔ -1 ≤ p.scanline ∧ p.scanline ≤ 239 := by
  simp only [Ppu.onRenderLine, Bool.and_eq_true, decide_eq_true_eq]

/-- On the pre-render and visible lines there is a phase in the fetch windows only (R395, R402). -/
theorem fetchPhase_of_line {scanline : Int} (h : -1 ≤ scanline ∧ scanline ≤ 239) (cycle : Nat) :
    fetchPhase scanline cycle = if inFetchWindow cycle then some ((cycle - 1) % 8) else none := by
  unfold fetchPhase
  exact if_congr ((and_iff_right h).trans (inFetchWindow_iff cycle).symm) rfl rfl

/-- In a fetch window: the shift, the sub-step, and the updates of cycles 256 and 257 (R395). -/
theorem State.scanlineWork_inWindow {s : State} (h : inFetchWindow s.ppu.cycle = true) :
    s.scanlineWork =
      (((s.onPpu Ppu.shiftBg).subStep).onlyIf (s.ppu.cycle == 256) (·.onPpu Ppu.incY)).onlyIf (s.ppu.cycle == 257)
        fun s => (s.onPpu Ppu.loadShifters).onPpu Ppu.transferX := by
  have hcycle := (inFetchWindow_iff _).mp h
  have hclear : (s.ppu.cycle == 1) = false := by simp; omega
  have hname : (s.ppu.cycle == 338 || s.ppu.cycle == 340) = false := by simp; omega
  have hcopy : (decide (280 ≤ s.ppu.cycle) && decide (s.ppu.cycle ≤ 304)) = false := by simp; omega
  simp only [State.scanlineWork, h, hclear, hname, hcopy, Bool.and_assoc, Bool.and_false, State.onlyIf_true,
    State.onlyIf_false]

/-- Outside: the status at cycle 1, the tile id at 338 and 340, and the vertical copy (R395). -/
theorem State.scanlineWork_outside {s : State} (h : inFetchWindow s.ppu.cycle = false) :
    s.scanlineWork =
      ((s.onlyIf (decide (s.ppu.scanline = -1) && s.ppu.cycle == 1) (·.onPpu Ppu.clearStatus)).onlyIf
        (s.ppu.cycle == 338 || s.ppu.cycle == 340) State.fetchNt).onlyIf
        (decide (s.ppu.scanline = -1) && decide (280 ≤ s.ppu.cycle) && decide (s.ppu.cycle ≤ 304))
        (·.onPpu Ppu.transferY) := by
  have hcycle := (inFetchWindow_iff _).not.mp (Bool.eq_false_iff.mp h)
  have hvertical : (s.ppu.cycle == 256) = false := by simp; omega
  have hreload : (s.ppu.cycle == 257) = false := by simp; omega
  simp only [State.scanlineWork, h, hvertical, hreload, State.onlyIf_false]

/-- In a fetch window the line's work scrolls at phase 7, at 256 and at 257 (R395, R402). -/
theorem State.scanlineWork_inWindow_vram {s : State} (h : inFetchWindow s.ppu.cycle = true) :
    s.scanlineWork.ppu.vram =
      if s.ppu.cycle = 256 then s.ppu.incX.incY.vram
      else if s.ppu.cycle = 257 then s.ppu.transferX.vram
      else if (s.ppu.cycle - 1) % 8 = 7 then s.ppu.incX.vram
      else s.ppu.vram := by
  have hshift : s.ppu.SameScroll (s.onPpu Ppu.shiftBg).ppu := Ppu.SameScroll.shiftBg s.ppu
  have hfetch : (if (s.ppu.cycle - 1) % 8 = 7 then s.ppu.incX else s.ppu).SameScroll
      (s.onPpu Ppu.shiftBg).subStep.ppu := by
    have hcycle : (s.onPpu Ppu.shiftBg).ppu.cycle = s.ppu.cycle := (PipelineOnly.shiftBg s).cycle
    rw [← hcycle]
    split
    · next h7 => rw [State.subStep_incX h7]; exact hshift.incX
    · next h7 => exact hshift.trans (State.subStep_sameScroll h7)
  rw [State.scanlineWork_inWindow h]
  generalize (s.onPpu Ppu.shiftBg).subStep = u at hfetch
  by_cases h256 : s.ppu.cycle = 256
  · rw [h256, if_pos (by decide)] at hfetch
    obtain ⟨hvram, -⟩ := hfetch.incY
    rw [h256, if_pos rfl, ← hvram]
    rfl
  by_cases h257 : s.ppu.cycle = 257
  · rw [h257, if_neg (by decide)] at hfetch
    obtain ⟨hvram, -⟩ := (hfetch.trans (Ppu.SameScroll.loadShifters u.ppu)).transferX
    rw [h257, if_neg (by decide), if_pos rfl, ← hvram]
    rfl
  rw [beq_false_of_ne h256, beq_false_of_ne h257, if_neg h256, if_neg h257, State.onlyIf_false, State.onlyIf_false,
    ← apply_ite Ppu.vram]
  obtain ⟨hvram, -⟩ := hfetch
  exact hvram

/-- Outside the fetch windows it scrolls where the pre-render line copies `tram` (R395). -/
theorem State.scanlineWork_outside_vram {s : State} (h : inFetchWindow s.ppu.cycle = false) :
    s.scanlineWork.ppu.vram =
      if s.ppu.scanline = -1 ∧ 280 ≤ s.ppu.cycle ∧ s.ppu.cycle ≤ 304 then s.ppu.transferY.vram else s.ppu.vram := by
  rw [State.scanlineWork_outside h]
  generalize hu : State.onlyIf _ (s.ppu.cycle == 338 || s.ppu.cycle == 340) State.fetchNt = u
  have hsame : s.ppu.SameScroll u.ppu := by
    subst hu
    exact State.onlyIf_cases (P := fun t => s.ppu.SameScroll t.ppu)
      (State.onlyIf_cases (P := fun t => s.ppu.SameScroll t.ppu) ⟨rfl, rfl, rfl⟩ ⟨rfl, rfl, rfl⟩)
      (State.onlyIf_cases (P := fun t => s.ppu.SameScroll t.fetchNt.ppu) ⟨rfl, rfl, rfl⟩ ⟨rfl, rfl, rfl⟩)
  split
  · next hcopy =>
    obtain ⟨hvram, -⟩ := hsame.transferY
    simp only [hcopy, decide_true, Bool.and_true, State.onlyIf_true, ← hvram]
    rfl
  · next hcopy =>
    obtain ⟨hvram, -⟩ := hsame
    have hcopy :
        (decide (s.ppu.scanline = -1) && decide (280 ≤ s.ppu.cycle) && decide (s.ppu.cycle ≤ 304)) = false := by
      rw [Bool.and_assoc, ← Bool.decide_and, ← Bool.decide_and]
      exact decide_eq_false hcopy
    rw [hcopy, State.onlyIf_false, hvram]

/-- Settles O39: the updates field by field, and the cycles that run them. -/
theorem scrollUpdates : Obligations.ScrollUpdates := by
  refine ⟨fun p => ⟨rfl, fun h => ⟨Ppu.incX_fields h, Ppu.incY_fields h, Ppu.transfer_fields h⟩, Ppu.scroll_off⟩,
    fun s => ?_⟩
  obtain ⟨b, n, f, hclock⟩ := s.ppuClock_ppu rfl
  have hwork : PipelineOnly s (s.onlyIf s.ppu.onRenderLine State.scanlineWork) :=
    (PipelineOnly.refl s).onlyIf PipelineOnly.scanlineWork
  rw [hclock, Ppu.advanceCounters_eq]
  refine ⟨hwork.tram, hwork.fineX, ?_⟩
  change (s.onlyIf s.ppu.onRenderLine State.scanlineWork).ppu.vram = _
  by_cases hline : -1 ≤ s.ppu.scanline ∧ s.ppu.scanline ≤ 239
  · rw [s.ppu.onRenderLine_iff.mpr hline, State.onlyIf_true, if_neg (not_not.mpr hline)]
    rw [fetchPhase_of_line hline]
    cases hwindow : inFetchWindow s.ppu.cycle with
    | true =>
      have hcycle := (inFetchWindow_iff _).mp hwindow
      rw [State.scanlineWork_inWindow_vram hwindow, if_neg (c := s.ppu.scanline = -1 ∧ _) (by omega), if_pos rfl]
      simp only [Option.some.injEq]
    | false =>
      have hcycle := (inFetchWindow_iff _).not.mp (Bool.eq_false_iff.mp hwindow)
      rw [State.scanlineWork_outside_vram hwindow, if_neg (c := s.ppu.cycle = 256) (by omega),
        if_neg (c := s.ppu.cycle = 257) (by omega)]
      rfl
  · rw [if_pos hline, Bool.eq_false_of_not_eq_true (s.ppu.onRenderLine_iff.not.mpr hline), State.onlyIf_false]

end Sys2Proof.Machine
end

section
/-! Bits, masks and parts of bit vectors in numbers. -/

namespace Sys2Proof.Machine

/-- A bit of a bit vector in numbers. -/
theorem toNat_getLsbD {w : Nat} (x : BitVec w) (i : Nat) : (x.getLsbD i).toNat = x.toNat / 2 ^ i % 2 := by
  rw [BitVec.getLsbD, Nat.toNat_testBit]

/-- Two parts of a number that share no bit, put together: `y` below bit `n`, `x` from it on. -/
theorem toNat_or_of_parts {w : Nat} {x y : BitVec w} {n hi : Nat} (hx : x.toNat = hi * 2 ^ n) (hy : y.toNat < 2 ^ n) :
    (x ||| y).toNat = hi * 2 ^ n + y.toNat := by
  rw [BitVec.toNat_or, hx, ← Nat.shiftLeft_eq, Nat.shiftLeft_add_eq_or_of_lt hy]

/-- A mask of the lowest `n` bits. -/
theorem toNat_and_lowMask {w n : Nat} (x : BitVec w) {m : BitVec w} (hm : m.toNat = 2 ^ n - 1) :
    (x &&& m).toNat = x.toNat % 2 ^ n := by
  rw [BitVec.toNat_and, hm, Nat.and_two_pow_sub_one_eq_mod]

/-- A mask of all bits but the lowest `n`. -/
theorem toNat_and_highMask {w n : Nat} (x : BitVec w) {m : BitVec w} (hm : m.toNat = (2 ^ (w - n) - 1) * 2 ^ n) :
    (x &&& m).toNat = x.toNat / 2 ^ n * 2 ^ n := by
  rw [BitVec.toNat_and, hm]
  refine Nat.eq_of_testBit_eq fun i => ?_
  rw [Nat.testBit_and, Nat.testBit_mul_two_pow, Nat.testBit_mul_two_pow, Nat.testBit_two_pow_sub_one,
    Nat.testBit_div_two_pow]
  by_cases hlow : n ≤ i
  · rw [Nat.sub_add_cancel hlow]
    by_cases hhigh : i < w
    · simp [hlow, show i - n < w - n by omega]
    · have hbit : x.toNat.testBit i = false :=
        Nat.testBit_lt_two_pow (x.isLt.trans_le (Nat.pow_le_pow_right two_pos (not_lt.mp hhigh)))
      simp [hbit]
  · simp [hlow]

end Sys2Proof.Machine
end

section
/-! The background latches and shifters (R400 to R414): what the work of a line leaves in them. -/

namespace Sys2Proof.Machine

/-! ### The fetch addresses, and the palette bits of a tile -/

/-- R410: the nametable address in numbers. -/
theorem Ppu.ntAddr_toNat (p : Ppu) : p.ntAddr.toNat = 0x2000 + p.vram.toNat % 4096 := by
  have hlow : ((p.vram &&& 0x0FFF).setWidth 14).toNat = p.vram.toNat % 4096 := by
    rw [BitVec.toNat_setWidth, toNat_and_lowMask _ (n := 12) rfl]
    omega
  rw [Ppu.ntAddr, toNat_or_of_parts (n := 12) (hi := 2) rfl (by rw [hlow]; omega), hlow]
  rfl

/-- R411: the address of the byte that holds a tile's palette bits, in numbers. -/
theorem Ppu.atAddr_toNat (p : Ppu) :
    p.atAddr.toNat = 0x23C0 + 2048 * (ntY p.vram).toNat + 1024 * (ntX p.vram).toNat +
      8 * ((coarseY p.vram).toNat / 4) + (coarseX p.vram).toNat / 4 := by
  have hy := (coarseY p.vram).isLt
  have hx := (coarseX p.vram).isLt
  have htable : (((0x23C0 : Nat) : PpuAddr) ||| ((if ntY p.vram then 0x0800 else 0 : Nat) : PpuAddr) |||
      ((if ntX p.vram then 0x0400 else 0 : Nat) : PpuAddr)).toNat =
      (143 + 32 * (ntY p.vram).toNat + 16 * (ntX p.vram).toNat) * 2 ^ 6 := by
    cases ntY p.vram <;> cases ntX p.vram <;> rfl
  have hrow : ((coarseY p.vram >>> 2).setWidth 14 <<< 3 : PpuAddr).toNat = (coarseY p.vram).toNat / 4 * 2 ^ 3 := by
    rw [BitVec.toNat_shiftLeft, BitVec.toNat_setWidth, BitVec.toNat_ushiftRight, Nat.shiftRight_eq_div_pow,
      Nat.shiftLeft_eq]
    omega
  have hcolumn : ((coarseX p.vram >>> 2).setWidth 14 : PpuAddr).toNat = (coarseX p.vram).toNat / 4 := by
    rw [BitVec.toNat_setWidth, BitVec.toNat_ushiftRight, Nat.shiftRight_eq_div_pow]
    omega
  have hupper := toNat_or_of_parts htable (by rw [hrow]; omega)
  rw [hrow, show ∀ m n, m * 2 ^ 6 + n * 2 ^ 3 = (8 * m + n) * 2 ^ 3 by omega] at hupper
  rw [Ppu.atAddr, toNat_or_of_parts hupper (by rw [hcolumn]; omega), hcolumn]
  omega

/-- R412: the pattern address in numbers. -/
theorem Ppu.patAddr_toNat (p : Ppu) :
    p.patAddr.toNat = 4096 * (p.control.getLsbD 4).toNat + 16 * p.bgNextId.toNat + (fineY p.vram).toNat := by
  have hid := p.bgNextId.isLt
  have hfine := (fineY p.vram).isLt
  have htable : ((if p.bgTable then 0x1000 else 0 : Nat) : PpuAddr).toNat = 4096 * (p.control.getLsbD 4).toNat := by
    rw [Ppu.bgTable]
    cases p.control.getLsbD 4 <;> rfl
  have hle := (p.control.getLsbD 4).toNat_le
  rw [Ppu.patAddr, BitVec.toNat_add, BitVec.toNat_add, htable, BitVec.toNat_shiftLeft, BitVec.toNat_setWidth,
    BitVec.toNat_setWidth, Nat.shiftLeft_eq]
  omega

/-- R411: the two bits that the quadrant selects, in numbers. -/
theorem Ppu.attrBits_toNat (p : Ppu) (b : Byte) :
    (p.attrBits b).toNat = b.toNat /
      2 ^ (4 * ((coarseY p.vram).toNat / 2 % 2) + 2 * ((coarseX p.vram).toNat / 2 % 2)) % 4 := by
  have hy : (coarseY p.vram).toNat / 2 % 2 = ((coarseY p.vram).getLsbD 1).toNat := (toNat_getLsbD _ 1).symm
  have hx : (coarseX p.vram).toNat / 2 % 2 = ((coarseX p.vram).getLsbD 1).toNat := (toNat_getLsbD _ 1).symm
  rw [Ppu.attrBits, hy, hx]
  cases (coarseY p.vram).getLsbD 1 <;> cases (coarseX p.vram).getLsbD 1 <;>
    simp [BitVec.extractLsb'_toNat, Nat.shiftRight_eq_div_pow]

/-! ### The shifters in numbers -/

/-- R401: a reload replaces the low byte. -/
theorem reloadLow_toNat (x : BitVec 16) (low : Byte) : (reloadLow x low).toNat = x.toNat / 256 * 256 + low.toNat := by
  have hlow : (low.setWidth 16).toNat = low.toNat := zext16_toNat low
  rw [reloadLow, toNat_or_of_parts (n := 8) (and_pageMask_toNat x) (by rw [hlow]; exact low.isLt), hlow]
  rfl

/-- R401: a second reload of the same byte changes nothing. -/
theorem reloadLow_reloadLow (x : BitVec 16) (low : Byte) : reloadLow (reloadLow x low) low = reloadLow x low := by
  have := low.isLt
  refine BitVec.eq_of_toNat_eq ?_
  simp only [reloadLow_toNat]
  omega

/-- A shifter after a clock step with the given fetch phase, `low` being the byte of its latch (R400, R401, R414). -/
def Ppu.shifterNext (p : Ppu) (phase : Option Nat) (x : BitVec 16) (low : Byte) : BitVec 16 :=
  if phase = none ∨ p.showBg = false then x
  else if phase = some 0 then reloadLow (x <<< 1) low
  else x <<< 1

theorem Ppu.shifterNext_toNat (p : Ppu) (phase : Option Nat) (x : BitVec 16) (low : Byte) :
    (p.shifterNext phase x low).toNat =
      if phase = none ∨ p.mask.getLsbD 3 = false then x.toNat
      else if phase = some 0 then 2 * x.toNat % 65536 / 256 * 256 + low.toNat
      else 2 * x.toNat % 65536 := by
  have hshift : (x <<< 1).toNat = 2 * x.toNat % 65536 := by
    rw [BitVec.toNat_shiftLeft, Nat.shiftLeft_eq, Nat.mul_comm]
  rw [Ppu.shifterNext, apply_ite BitVec.toNat, apply_ite BitVec.toNat, reloadLow_toNat, hshift]
  rfl

/-! ### The background part of the unit -/

/-- The latches and shifters of the background (R43). -/
structure Background where
  nextId : Byte
  nextAttr : BitVec 2
  nextLsb : Byte
  nextMsb : Byte
  patLo : BitVec 16
  patHi : BitVec 16
  attLo : BitVec 16
  attHi : BitVec 16

/-- The background part of the picture unit. -/
def Ppu.background (p : Ppu) : Background :=
  { nextId := p.bgNextId, nextAttr := p.bgNextAttr, nextLsb := p.bgNextLsb, nextMsb := p.bgNextMsb
    patLo := p.shPatLo, patHi := p.shPatHi, attLo := p.shAttLo, attHi := p.shAttHi }

/-- The byte that a palette bit loads into its shifter (R401). -/
def attrByte (b : Bool) : Byte := if b then 0xFF else 0x00

/-- Each shifter reloaded from its latch (R401). -/
def Background.reload (b : Background) : Background :=
  { b with
    patLo := reloadLow b.patLo b.nextLsb
    patHi := reloadLow b.patHi b.nextMsb
    attLo := reloadLow b.attLo (attrByte (b.nextAttr.getLsbD 0))
    attHi := reloadLow b.attHi (attrByte (b.nextAttr.getLsbD 1)) }

/-- A second reload changes nothing, whatever tile id was fetched between the two. -/
theorem Background.reload_reload (b : Background) (id : Byte) :
    ({ b.reload with nextId := id } : Background).reload = { b.reload with nextId := id } := by
  simp only [Background.reload, reloadLow_reloadLow]

/-- The background after the shift of a clock step, and at phase 0 the reload (R400, R401). -/
def Ppu.shiftedBackground (p : Ppu) (phase : Option Nat) : Background :=
  { p.background with
    patLo := p.shifterNext phase p.shPatLo p.bgNextLsb
    patHi := p.shifterNext phase p.shPatHi p.bgNextMsb
    attLo := p.shifterNext phase p.shAttLo (attrByte (p.bgNextAttr.getLsbD 0))
    attHi := p.shifterNext phase p.shAttHi (attrByte (p.bgNextAttr.getLsbD 1)) }

theorem Ppu.shiftBg_eq (p : Ppu) :
    ∃ x y z w, p.shiftBg = { p with shPatLo := x, shPatHi := y, shAttLo := z, shAttHi := w } := by
  unfold Ppu.shiftBg
  split <;> exact ⟨_, _, _, _, rfl⟩

theorem Ppu.loadShifters_background (p : Ppu) :
    p.loadShifters.background = if p.showBg then p.background.reload else p.background := by
  unfold Ppu.loadShifters
  split <;> rfl

theorem Ppu.shiftBg_background (p : Ppu) {k : Nat} (h : k ≠ 0) :
    p.shiftBg.background = p.shiftedBackground (some k) := by
  simp only [Ppu.shiftedBackground, Ppu.shifterNext, Option.some.injEq, h, if_false, reduceCtorEq, false_or]
  unfold Ppu.shiftBg
  cases p.showBg <;> rfl

theorem Ppu.shiftBg_loadShifters_background (p : Ppu) :
    p.shiftBg.loadShifters.background = p.shiftedBackground (some 0) := by
  have hshow : p.shiftBg.showBg = p.showBg := by
    obtain ⟨x, y, z, w, h⟩ := p.shiftBg_eq
    rw [h]
    rfl
  rw [Ppu.loadShifters_background, hshow]
  simp only [Ppu.shiftedBackground, Ppu.shifterNext, if_true, reduceCtorEq, false_or]
  unfold Ppu.shiftBg
  cases p.showBg <;> rfl

/-- A reload after a reload changes nothing, also with a tile id fetched between the two. -/
theorem Ppu.loadShifters_loadShifters_background {p q : Ppu} {id : Byte}
    (h : q = { p.loadShifters with bgNextId := id }) : q.loadShifters.background = q.background := by
  have hshow : q.showBg = p.showBg := by
    rw [h]
    unfold Ppu.loadShifters
    split <;> rfl
  have hq : q.background = { p.loadShifters.background with nextId := id } := by rw [h]; rfl
  rw [Ppu.loadShifters_background, hshow, hq, Ppu.loadShifters_background]
  split
  · exact Background.reload_reload _ id
  · rfl

theorem Ppu.incX_background (p : Ppu) : p.incX.background = p.background := by
  unfold Ppu.incX
  split
  · split <;> rfl
  · rfl

theorem Ppu.incY_background (p : Ppu) : p.incY.background = p.background := by
  simp only [Ppu.incY]
  repeat' split
  all_goals rfl

theorem Ppu.transferX_background (p : Ppu) : p.transferX.background = p.background := by
  unfold Ppu.transferX
  split <;> rfl

theorem Ppu.transferY_background (p : Ppu) : p.transferY.background = p.background := by
  unfold Ppu.transferY
  split <;> rfl

/-! ### The clock step -/

/-- The pipeline does not change what the unit's address space shows. -/
theorem PipelineOnly.ppuRead {s t : State} (h : PipelineOnly s t) (a : PpuAddr) : t.ppuRead a = s.ppuRead a := by
  have hcart : t.cart = s.cart := by have e := congrArg State.cart h.outside; exact e
  have hdraws : t.draws = s.draws := by have e := congrArg State.draws h.outside; exact e
  unfold State.ppuRead Ppu.palRead Ppu.grayscale Ppu.ntRead
  rw [hcart, hdraws, h.pal, h.mask, h.nt0, h.nt1]

/-- The background after the clock step of a line's fetch phase (R402 to R414). -/
def State.nextBackground (s : State) (phase : Option Nat) : Background :=
  { s.ppu.shiftedBackground phase with
    nextId := if phase = some 0 then s.ppuRead s.ppu.ntAddr else s.ppu.bgNextId
    nextAttr := if phase = some 2 then s.ppu.attrBits (s.ppuRead s.ppu.atAddr) else s.ppu.bgNextAttr
    nextLsb := if phase = some 4 then s.ppuRead s.ppu.patAddr else s.ppu.bgNextLsb
    nextMsb := if phase = some 6 then s.ppuRead (s.ppu.patAddr + 8) else s.ppu.bgNextMsb }

/-- The shift and the fetch sub-step: the latch of the phase is filled (R402). -/
theorem State.shiftBg_subStep_background (s : State) :
    (s.onPpu Ppu.shiftBg).subStep.ppu.background = s.nextBackground (some ((s.ppu.cycle - 1) % 8)) := by
  have hread := (PipelineOnly.shiftBg s).ppuRead
  obtain ⟨x, y, z, w, hshift⟩ := s.ppu.shiftBg_eq
  have hcycle : (s.onPpu Ppu.shiftBg).ppu.cycle = s.ppu.cycle := (PipelineOnly.shiftBg s).cycle
  have hattr (b : Byte) : (s.onPpu Ppu.shiftBg).ppu.attrBits b = s.ppu.attrBits b := by
    change s.ppu.shiftBg.attrBits b = _
    rw [hshift]
    rfl
  have hat : (s.onPpu Ppu.shiftBg).ppu.atAddr = s.ppu.atAddr := by
    change s.ppu.shiftBg.atAddr = _
    rw [hshift]
    rfl
  have hpat : (s.onPpu Ppu.shiftBg).ppu.patAddr = s.ppu.patAddr := by
    change s.ppu.shiftBg.patAddr = _
    rw [hshift]
    rfl
  unfold State.subStep
  rw [hcycle]
  generalize (s.ppu.cycle - 1) % 8 = k
  split
  · have hname : (s.onPpu Ppu.shiftBg |>.onPpu Ppu.loadShifters).ppu.ntAddr = s.ppu.ntAddr := by
      obtain ⟨hvram, -⟩ := (Ppu.SameScroll.shiftBg s.ppu).trans (Ppu.SameScroll.loadShifters s.ppu.shiftBg)
      exact congrArg (fun v : BitVec 15 => 0x2000 ||| (v &&& 0x0FFF).setWidth 14) hvram
    have hreload := (PipelineOnly.loadShifters (s.onPpu Ppu.shiftBg)).ppuRead
    calc _ = { s.ppu.shiftBg.loadShifters.background with nextId := s.ppuRead s.ppu.ntAddr } := by
          rw [State.fetchNt, hname, hreload, hread]
          rfl
      _ = _ := by rw [Ppu.shiftBg_loadShifters_background]; rfl
  · calc _ = { s.ppu.shiftBg.background with nextAttr := s.ppu.attrBits (s.ppuRead s.ppu.atAddr) } := by
          rw [State.fetchAt, hattr, hat, hread]
          rfl
      _ = _ := by rw [Ppu.shiftBg_background _ (k := 2) (by decide)]; rfl
  · calc _ = { s.ppu.shiftBg.background with nextLsb := s.ppuRead s.ppu.patAddr } := by
          rw [State.fetchPatLo, hpat, hread]
          rfl
      _ = _ := by rw [Ppu.shiftBg_background _ (k := 4) (by decide)]; rfl
  · calc _ = { s.ppu.shiftBg.background with nextMsb := s.ppuRead (s.ppu.patAddr + 8) } := by
          rw [State.fetchPatHi, hpat, hread]
          rfl
      _ = _ := by rw [Ppu.shiftBg_background _ (k := 6) (by decide)]; rfl
  · exact (Ppu.incX_background _).trans (Ppu.shiftBg_background s.ppu (k := 7) (by decide))
  · next h0 h2 h4 h6 h7 =>
    refine (Ppu.shiftBg_background s.ppu h0).trans ?_
    simp only [State.nextBackground, Option.some.injEq, if_neg h0, if_neg h2, if_neg h4, if_neg h6]
    rfl

/-- The work of a line in the fetch windows; the second reload, at cycle 257, changes nothing (R395). -/
theorem State.scanlineWork_inWindow_background {s : State} (h : inFetchWindow s.ppu.cycle = true) :
    s.scanlineWork.ppu.background = s.nextBackground (some ((s.ppu.cycle - 1) % 8)) := by
  rw [← s.shiftBg_subStep_background, State.scanlineWork_inWindow h]
  have hvertical (t : State) (c : Bool) : (t.onlyIf c (·.onPpu Ppu.incY)).ppu.background = t.ppu.background :=
    State.onlyIf_cases (P := fun u => u.ppu.background = t.ppu.background) rfl t.ppu.incY_background
  by_cases h257 : s.ppu.cycle = 257
  · have hcycle : (s.onPpu Ppu.shiftBg).ppu.cycle = s.ppu.cycle := (PipelineOnly.shiftBg s).cycle
    have hfetch : (s.onPpu Ppu.shiftBg).subStep = ((s.onPpu Ppu.shiftBg).onPpu Ppu.loadShifters).fetchNt := by
      rw [State.subStep, hcycle, h257]
      rfl
    rw [h257, hfetch]
    exact (Ppu.transferX_background _).trans (Ppu.loadShifters_loadShifters_background rfl)
  · rw [beq_false_of_ne h257, State.onlyIf_false, hvertical]

/-- Outside the fetch windows the tile id alone is fetched, at cycles 338 and 340 (R395). -/
theorem State.scanlineWork_outside_background {s : State} (h : inFetchWindow s.ppu.cycle = false) :
    s.scanlineWork.ppu.background =
      { s.ppu.background with
        nextId := if s.ppu.cycle = 338 ∨ s.ppu.cycle = 340 then s.ppuRead s.ppu.ntAddr else s.ppu.bgNextId } := by
  rw [State.scanlineWork_outside h]
  have hcopy (t : State) (c : Bool) : (t.onlyIf c (·.onPpu Ppu.transferY)).ppu.background = t.ppu.background :=
    State.onlyIf_cases (P := fun u => u.ppu.background = t.ppu.background) rfl t.ppu.transferY_background
  rw [hcopy]
  by_cases hname : s.ppu.cycle = 338 ∨ s.ppu.cycle = 340
  · have hclear : (s.ppu.cycle == 1) = false := beq_false_of_ne (by omega)
    have hfetch : (s.ppu.cycle == 338 || s.ppu.cycle == 340) = true := by simpa using hname
    rw [if_pos hname, hclear, hfetch, Bool.and_false]
    rfl
  · have hfetch : (s.ppu.cycle == 338 || s.ppu.cycle == 340) = false := by simpa using hname
    rw [if_neg hname, hfetch, State.onlyIf_false]
    exact State.onlyIf_cases (P := fun u => u.ppu.background = s.ppu.background) rfl rfl

/-- What a clock step does to the latches and shifters, for every line and cycle (R395, R400 to R414). -/
theorem State.ppuClock_background (s : State) :
    s.ppuClock.ppu.background =
      { s.nextBackground (fetchPhase s.ppu.scanline s.ppu.cycle) with
        nextId :=
          if fetchPhase s.ppu.scanline s.ppu.cycle = some 0 ∨ (-1 ≤ s.ppu.scanline ∧ s.ppu.scanline ≤ 239 ∧
            (s.ppu.cycle = 338 ∨ s.ppu.cycle = 340)) then s.ppuRead s.ppu.ntAddr else s.ppu.bgNextId } := by
  obtain ⟨b, n, f, hclock⟩ := s.ppuClock_ppu rfl
  rw [hclock, Ppu.advanceCounters_eq]
  change (s.onlyIf s.ppu.onRenderLine State.scanlineWork).ppu.background = _
  by_cases hline : -1 ≤ s.ppu.scanline ∧ s.ppu.scanline ≤ 239
  · rw [s.ppu.onRenderLine_iff.mpr hline, State.onlyIf_true, fetchPhase_of_line hline]
    cases hwindow : inFetchWindow s.ppu.cycle with
    | true =>
      have hcycle := (inFetchWindow_iff _).mp hwindow
      have hname : ¬(s.ppu.cycle = 338 ∨ s.ppu.cycle = 340) := by omega
      simp only [State.scanlineWork_inWindow_background hwindow, hname, and_false, or_false, if_true]
      rfl
    | false =>
      rw [State.scanlineWork_outside_background hwindow]
      simp only [hline, true_and, if_false, Bool.false_eq_true, reduceCtorEq, false_or]
      rfl
  · rw [Bool.eq_false_of_not_eq_true (s.ppu.onRenderLine_iff.not.mpr hline), State.onlyIf_false, fetchPhase,
      if_neg fun h => hline h.1]
    simp only [reduceCtorEq, false_or]
    rw [if_neg fun h => hline ⟨h.1, h.2.1⟩]
    rfl

/-- Settles O40: the background after a clock step, its addresses, palette bits and shifters in numbers. -/
theorem backgroundPipeline : Obligations.BackgroundPipeline := by
  rintro s nt att pat phase attr hnt hat hpat rfl rfl
  obtain rfl : nt = s.ppu.ntAddr := BitVec.eq_of_toNat_eq (hnt.trans s.ppu.ntAddr_toNat.symm)
  obtain rfl : att = s.ppu.atAddr := BitVec.eq_of_toNat_eq (hat.trans s.ppu.atAddr_toNat.symm)
  obtain rfl : pat = s.ppu.patAddr := BitVec.eq_of_toNat_eq (hpat.trans s.ppu.patAddr_toNat.symm)
  have h := s.ppuClock_background
  generalize fetchPhase s.ppu.scanline s.ppu.cycle = phase at h
  injection h with hid hattr hlsb hmsb hpatLo hpatHi hattLo hattHi
  refine ⟨hid, ?_, hlsb, hmsb, fun before after low hmem => ?_⟩
  · rw [hattr, State.nextBackground, apply_ite BitVec.toNat, Ppu.attrBits_toNat]
  · simp only [List.mem_cons, Prod.mk.injEq, List.not_mem_nil, or_false] at hmem
    obtain ⟨rfl, rfl, rfl⟩ | ⟨rfl, rfl, rfl⟩ | ⟨rfl, rfl, rfl⟩ | ⟨rfl, rfl, rfl⟩ := hmem
    · rw [hpatLo]
      exact s.ppu.shifterNext_toNat ..
    · rw [hpatHi]
      exact s.ppu.shifterNext_toNat ..
    · rw [hattLo]
      exact s.ppu.shifterNext_toNat ..
    · rw [hattHi]
      exact s.ppu.shifterNext_toNat ..

end Sys2Proof.Machine
end

section
/-! The writes to the picture unit's registers 0 to 6 (R382 to R388), at every mirror (R87). -/

namespace Sys2Proof.Machine

/-! ### The two-step registers -/

/-- R387: the first write to the scroll register. -/
theorem Ppu.scrollWrite_first {p : Ppu} (h : p.addrLatch = false) (v : Byte) :
    p.scrollWrite v = { p with fineX := v.extractLsb' 0 3, tram := withCoarseX p.tram (v.extractLsb' 3 5)
                               addrLatch := true } := by
  rw [Ppu.scrollWrite, h]
  rfl

/-- R387: the second write to the scroll register. -/
theorem Ppu.scrollWrite_second {p : Ppu} (h : p.addrLatch = true) (v : Byte) :
    p.scrollWrite v =
      { p with tram := withCoarseY (withFineY p.tram (v.extractLsb' 0 3)) (v.extractLsb' 3 5)
               addrLatch := false } := by
  rw [Ppu.scrollWrite, h]
  rfl

/-- R388: the first write to the address register sets the high six bits of the address. -/
theorem Ppu.addressWrite_first {p : Ppu} (h : p.addrLatch = false) (v : Byte) :
    ∃ tram : BitVec 15, p.addressWrite v = { p with tram := tram, addrLatch := true } ∧
      tram.toNat = v.toNat % 64 * 256 + p.tram.toNat % 256 := by
  rw [Ppu.addressWrite, h]
  refine ⟨_, rfl, ?_⟩
  have hlow : (p.tram &&& 0x00FF).toNat = p.tram.toNat % 256 := toNat_and_lowMask _ (n := 8) rfl
  have hhigh : ((v &&& 0x3F).setWidth 15 <<< 8 : BitVec 15).toNat = v.toNat % 64 * 2 ^ 8 := by
    rw [BitVec.toNat_shiftLeft, BitVec.toNat_setWidth, toNat_and_lowMask _ (n := 6) rfl, Nat.shiftLeft_eq]
    omega
  rw [toNat_or_of_parts hhigh (by omega), hlow]
  rfl

/-- R388: the second write sets its low byte and copies it to `vram`. -/
theorem Ppu.addressWrite_second {p : Ppu} (h : p.addrLatch = true) (v : Byte) :
    ∃ tram : BitVec 15, p.addressWrite v = { p with tram := tram, vram := tram, addrLatch := false } ∧
      tram.toNat = p.tram.toNat / 256 * 256 + v.toNat := by
  rw [Ppu.addressWrite, h]
  refine ⟨_, rfl, ?_⟩
  have hlow : (v.setWidth 15).toNat = v.toNat := by
    have := v.isLt
    rw [BitVec.toNat_setWidth]
    omega
  rw [toNat_or_of_parts (n := 8) (toNat_and_highMask _ rfl) (by rw [hlow]; exact v.isLt), hlow]
  rfl

/-- Settles O42: the registers one by one, each with its whole next state. -/
theorem pictureRegisterWrites : Obligations.PictureRegisterWrites := by
  intro s a v h1 h2
  have write {r : Nat} (h : a.toNat % 8 = r) : s.memWrite a v = (s.noteWrite v).ppuRegWrite r v :=
    h ▸ s.memWrite_ppuWindow v h1 h2
  refine ⟨fun h => ?control, fun h => write h, fun h => write h, fun h => write h, fun h => ?oamData,
    fun h hlatch => ?scroll1, fun h hlatch => ?scroll2, fun h hlatch => ?address1, fun h hlatch => ?address2⟩
  case control => exact ⟨_, write h, by simp⟩
  case oamData =>
    refine ⟨⟨s.ppu.oamAddr + 1, BitVec.toNat_add _ _, write h⟩, ?_⟩
    rw [s.memRead_ppuWindow h1 h2, h]
    rfl
  case scroll1 =>
    exact ⟨_, (write h).trans (congrArg (s.noteWrite v).setPpu (Ppu.scrollWrite_first hlatch v)), by simp⟩
  case scroll2 =>
    exact ⟨_, (write h).trans (congrArg (s.noteWrite v).setPpu (Ppu.scrollWrite_second hlatch v)), by simp⟩
  case address1 =>
    obtain ⟨tram, heq, hnum⟩ := Ppu.addressWrite_first hlatch v
    exact ⟨tram, (write h).trans (congrArg (s.noteWrite v).setPpu heq), hnum⟩
  case address2 =>
    obtain ⟨tram, heq, hnum⟩ := Ppu.addressWrite_second hlatch v
    exact ⟨tram, (write h).trans (congrArg (s.noteWrite v).setPpu heq), hnum⟩

end Sys2Proof.Machine
end

section
/-! The audio unit's registers (R461 to R467). -/

namespace Sys2Proof.Machine

/-! ### Control and status -/

/-- A write to 0x4015 (R85, R465). -/
theorem State.memWrite_apuControl (s : State) (v : Byte) :
    s.memWrite 0x4015 v = (s.noteWrite v).setApu (s.apu.controlWrite v) := by
  simp only [State.memWrite, State.decodeWrite,
    (s.noteWrite v).cart.cpuWrite_low v (show (0x4015 : Word) < 0x6000 by decide)]
  rfl

/-- A read of 0x4015 (R84, R466). -/
theorem State.memRead_apuStatus (s : State) : s.memRead 0x4015 = s.apuStatusRead := by
  simp only [State.memRead, s.cart.cpuRead_low (show (0x4015 : Word) < 0x6000 by decide)]
  rfl

/-- The three defined bits of a status read stand clear of the free ones (R466). -/
theorem State.apuStatusRead_bits (s : State) :
    s.apuStatusRead.value.getLsbD 0 = decide (s.apu.pulse1.length ≠ 0) ∧
    s.apuStatusRead.value.getLsbD 1 = decide (s.apu.pulse2.length ≠ 0) ∧
    s.apuStatusRead.value.getLsbD 3 = decide (s.apu.noise.length ≠ 0) := by
  have hne (x : Byte) : (x != 0) = decide (x ≠ 0) := by
    rw [decide_not]
    rfl
  simp only [State.apuStatusRead, Apu.statusBits, hne]
  simp [getLsbD_bitAt, -BitVec.getLsbD_eq_getElem]

/-- Settles O47: the control write, and the status read with its three bits. -/
theorem apuControlAndStatus : Obligations.ApuControlAndStatus := by
  intro s v
  obtain ⟨hpulse1, hpulse2, hnoise⟩ := s.apuStatusRead_bits
  rw [s.memRead_apuStatus]
  exact ⟨s.memWrite_apuControl v, hpulse1, hpulse2, hnoise, _, rfl⟩

/-! ### The channels -/

/-- A write to a channel's register (R85, R462). -/
theorem State.memWrite_apuRegister (s : State) {a : Word} (v : Byte)
    (h : (0x4000 ≤ a ∧ a ≤ 0x4013) ∨ a = 0x4017) :
    s.memWrite a v = (s.noteWrite v).setApu (s.apu.regWrite a v) := by
  have hram : ¬a ≤ 0x1FFF := by bv_omega
  have hppu : ¬a ≤ 0x3FFF := by bv_omega
  have hcontrol : a ≠ 0x4015 := by bv_omega
  have happly : a ≤ 0x4013 ∨ a = 0x4017 := h.imp_left And.right
  simp only [State.memWrite, State.decodeWrite,
    (s.noteWrite v).cart.cpuWrite_low v (show a < 0x6000 by bv_omega), hram, hppu, hcontrol, happly, if_true, if_false]
  rfl

/-- The length that a register's value loads (R461, R463). -/
theorem lengthLoad_eq (v : Byte) : lengthLoad v = lengthTable.getD (v.toNat / 8) 0 := by
  have hindex : (v.extractLsb' 3 5).toNat = v.toNat / 8 := by
    have := v.isLt
    rw [BitVec.extractLsb'_toNat, Nat.shiftRight_eq_div_pow]
    omega
  rw [lengthLoad, hindex]

/-- R463: the third register of a pulse channel is the low byte of its period. -/
theorem Pulse.regWrite_two (p : Pulse) (v : Byte) :
    ∃ w : BitVec 11, w.toNat = p.timerReload.toNat / 256 * 256 + v.toNat ∧
      p.regWrite 2 v = { p with timerReload := w } := by
  refine ⟨_, ?_, rfl⟩
  have hlow : (v.setWidth 11).toNat = v.toNat := by
    have := v.isLt
    rw [BitVec.toNat_setWidth]
    omega
  rw [toNat_or_of_parts (n := 8) (toNat_and_highMask _ rfl) (by rw [hlow]; exact v.isLt), hlow]
  rfl

/-- R463: the fourth is the high part of its period, its length, and a restart of sequencer and envelope. -/
theorem Pulse.regWrite_three (p : Pulse) (v : Byte) :
    ∃ w : BitVec 11, w.toNat = v.toNat % 8 * 256 + p.timerReload.toNat % 256 ∧
      p.regWrite 3 v =
        { p with timerReload := w, length := if p.enable then lengthTable.getD (v.toNat / 8) 0 else p.length
                 seqPos := 0, env := { p.env with start := true } } := by
  rw [← lengthLoad_eq]
  refine ⟨_, ?_, rfl⟩
  have hlow : (p.timerReload &&& 0x0FF).toNat = p.timerReload.toNat % 256 := toNat_and_lowMask _ (n := 8) rfl
  have hhigh : ((v &&& 0x07).setWidth 11 <<< 8 : BitVec 11).toNat = v.toNat % 8 * 2 ^ 8 := by
    rw [BitVec.toNat_shiftLeft, BitVec.toNat_setWidth, toNat_and_lowMask _ (n := 3) rfl, Nat.shiftLeft_eq]
    omega
  rw [toNat_or_of_parts hhigh (by omega), hlow]
  rfl

/-- The unit's decoder sends the four addresses of each pulse channel to its registers (R462). -/
theorem Apu.regWrite_pulse (u : Apu) (v : Byte) {r : Nat} (h : r < 4) :
    u.regWrite (0x4000 + BitVec.ofNat 16 r) v = { u with pulse1 := u.pulse1.regWrite r v } ∧
    u.regWrite (0x4004 + BitVec.ofNat 16 r) v = { u with pulse2 := u.pulse2.regWrite r v } := by
  interval_cases r <;> exact ⟨rfl, rfl⟩

/-- R467: the triangle, DMC and frame registers take no effect. -/
theorem Apu.regWrite_other (u : Apu) {a : Word} (v : Byte)
    (h : (0x4008 ≤ a ∧ a ≤ 0x400B) ∨ (0x4010 ≤ a ∧ a ≤ 0x4013) ∨ a = 0x4017) : u.regWrite a v = u := by
  rw [Apu.regWrite, if_neg (by bv_omega), if_neg (by bv_omega), if_neg (by bv_omega)]

/-- Settles O48: a pulse channel, whichever it is, by its four registers; the noise channel register by register. -/
theorem apuRegisters : Obligations.ApuRegisters := by
  refine ⟨rfl, fun s v a p put hmem => ?pulse, ?noise, fun s v a h => ?other⟩
  case pulse =>
    have write : ∀ r < 4, s.memWrite (a + BitVec.ofNat 16 r) v = (s.noteWrite v).setApu (put (p.regWrite r v)) := by
      intro r hr
      obtain ⟨h1, h2⟩ := s.apu.regWrite_pulse v hr
      simp only [List.mem_cons, Prod.mk.injEq, List.not_mem_nil, or_false] at hmem
      obtain ⟨rfl, rfl, rfl⟩ | ⟨rfl, rfl, rfl⟩ := hmem
      · rw [s.memWrite_apuRegister v (by bv_omega), h1]
      · rw [s.memWrite_apuRegister v (by bv_omega), h2]
    have h0 := write 0 (by decide)
    rw [BitVec.add_zero] at h0
    obtain ⟨w2, hw2, h2⟩ := p.regWrite_two v
    obtain ⟨w3, hw3, h3⟩ := p.regWrite_three v
    exact ⟨h0, write 1 (by decide), ⟨w2, hw2, h2 ▸ write 2 (by decide)⟩, w3, hw3, h3 ▸ write 3 (by decide)⟩
  case noise =>
    rintro s v n rfl
    rw [← lengthLoad_eq]
    exact ⟨s.memWrite_apuRegister v (by decide), s.memWrite_apuRegister v (by decide),
      s.memWrite_apuRegister v (by decide), s.memWrite_apuRegister v (by decide)⟩
  case other =>
    rw [s.memWrite_apuRegister v (by bv_omega), s.apu.regWrite_other v h]
    rfl

end Sys2Proof.Machine
end

section
/-! The steps of the audio channels (R475 to R491), and the frame sequencer that runs them (R470 to R472). -/

namespace Sys2Proof.Machine

/-! ### One step of each unit -/

/-- R480, in its three cases. -/
theorem Envelope.tick_cases (e : Envelope) :
    (e.start = true → e.tick = { e with start := false, decay := 15, div := e.vol }) ∧
    (e.start = false → e.div = 0 →
      ∃ k : BitVec 4, k.toNat = (if e.decay ≠ 0 then e.decay.toNat - 1 else if e.loop then 15 else 0) ∧
        e.tick = { e with div := e.vol, decay := k }) ∧
    (e.start = false → e.div ≠ 0 →
      ∃ d : BitVec 4, d.toNat = e.div.toNat - 1 ∧ e.tick = { e with div := d }) := by
  refine ⟨fun hstart => if_pos hstart, fun hstart hdiv => ?_, fun hstart hdiv => ?_⟩
  · rw [Envelope.tick, if_neg (c := e.start = true) (by simp [hstart]), if_pos hdiv]
    refine ⟨_, ?_, rfl⟩
    by_cases hdecay : e.decay = 0
    · rw [if_neg (not_not.mpr hdecay), if_neg (not_not.mpr hdecay), hdecay]
      cases e.loop <;> rfl
    · rw [if_pos hdecay, if_pos hdecay]
      bv_omega
  · rw [Envelope.tick, if_neg (c := e.start = true) (by simp [hstart]), if_neg hdiv]
    exact ⟨_, by bv_omega, rfl⟩

/-- A step keeps the loop bit, which is `halt` of the length counter (R463, R480). -/
theorem Envelope.tick_loop (e : Envelope) : e.tick.loop = e.loop := by
  unfold Envelope.tick
  split
  · rfl
  · split <;> rfl

/-- R475, in its two cases. -/
theorem Pulse.timerTick_cases (p : Pulse) :
    (p.timer = 0 →
      ∃ q : BitVec 3, q.toNat = (p.seqPos.toNat + 1) % 8 ∧
        p.timerTick = { p with timer := p.timerReload, seqPos := q }) ∧
    (p.timer ≠ 0 →
      ∃ d : BitVec 11, d.toNat = p.timer.toNat - 1 ∧ p.timerTick = { p with timer := d }) := by
  refine ⟨fun h => ⟨_, BitVec.toNat_add _ _, if_pos h⟩, fun h => ⟨_, ?_, if_neg h⟩⟩
  bv_omega

/-- R461: the noise period of every code fits the timer. -/
theorem noisePeriod_toNat (c : BitVec 4) :
    (BitVec.ofNat 12 (noisePeriodTable.getD c.toNat 4 / 2 - 1)).toNat = noisePeriodTable.getD c.toNat 0 / 2 - 1 := by
  revert c
  decide

/-- R490, in its two cases: the register shifts down and the feedback enters at the top. -/
theorem Noise.timerTick_cases (n : Noise) :
    (n.timer = 0 →
      ∃ (d : BitVec 12) (l : BitVec 15),
        d.toNat = noisePeriodTable.getD n.period.toNat 0 / 2 - 1 ∧
        (∀ k, k < 14 → l.getLsbD k = n.lfsr.getLsbD (k + 1)) ∧
        l.getLsbD 14 = (n.lfsr.getLsbD 0 ^^ n.lfsr.getLsbD (if n.mode then 6 else 1)) ∧
        n.timerTick = { n with timer := d, lfsr := l }) ∧
    (n.timer ≠ 0 →
      ∃ d : BitVec 12, d.toNat = n.timer.toNat - 1 ∧ n.timerTick = { n with timer := d }) := by
  refine ⟨fun h => ⟨_, _, noisePeriod_toNat n.period, fun k hk => ?_, ?_, if_pos h⟩, fun h => ⟨_, ?_, if_neg h⟩⟩
  · rw [BitVec.getLsbD_or, BitVec.getLsbD_ushiftRight, Nat.add_comm]
    generalize (n.lfsr.getLsbD 0 ^^ (if n.mode then n.lfsr.getLsbD 6 else n.lfsr.getLsbD 1)) = fb
    have htop : (if fb then 0x4000 else 0 : BitVec 15).getLsbD k = false := by
      cases fb <;> interval_cases k <;> rfl
    rw [htop, Bool.or_false]
  · rw [BitVec.getLsbD_or, BitVec.getLsbD_ushiftRight, BitVec.getLsbD_of_ge _ _ (by decide : 15 ≤ 1 + 14),
      Bool.false_or, apply_ite n.lfsr.getLsbD]
    generalize (n.lfsr.getLsbD 0 ^^ (if n.mode then n.lfsr.getLsbD 6 else n.lfsr.getLsbD 1)) = fb
    cases fb <;> rfl
  · bv_omega

/-- R483: a length counter goes down by one unless it is halted; at 0 it stays there. -/
theorem lengthTick_toNat (halt : Bool) (length : Byte) :
    (lengthTick halt length).toNat = if halt = false then length.toNat - 1 else length.toNat := by
  unfold lengthTick
  cases halt with
  | true => rfl
  | false =>
    by_cases h : length = 0
    · rw [h]
      rfl
    · rw [if_pos ⟨rfl, h⟩, if_pos rfl]
      bv_omega

/-! ### One APU cycle -/

/-- The sweep reads and writes neither the length counter nor the envelope (R486). -/
theorem Pulse.sweepTick_with (p : Pulse) (id : PulseId) (l : Byte) (e : Envelope) :
    ({ p with length := l, env := e } : Pulse).sweepTick id = { p.sweepTick id with length := l, env := e } := by
  unfold Pulse.sweepTick
  dsimp only
  split <;> rfl

/-- Nor does the timer (R475). -/
theorem Pulse.timerTick_with (p : Pulse) (l : Byte) (e : Envelope) :
    ({ p with length := l, env := e } : Pulse).timerTick = { p.timerTick with length := l, env := e } := by
  unfold Pulse.timerTick
  dsimp only
  split <;> rfl

theorem Noise.timerTick_with (n : Noise) (l : Byte) (e : Envelope) :
    ({ n with length := l, env := e } : Noise).timerTick = { n.timerTick with length := l, env := e } := by
  unfold Noise.timerTick
  dsimp only
  split <;> rfl

/-- A half-frame event after the envelope's step: the length counter and the sweep (R472). -/
theorem Pulse.halfFrame_with (p : Pulse) (id : PulseId) :
    ({ p with env := p.env.tick } : Pulse).halfFrame id =
      { p.sweepTick id with length := lengthTick p.halt p.length, env := p.env.tick } := by
  rw [Pulse.halfFrame, Pulse.halt, Envelope.tick_loop]
  exact p.sweepTick_with id _ _

/-- The counts of the two half-frame events (R470). -/
abbrev HalfFrameAt (n : Nat) : Prop := n = 7457 ∨ n = 14916

/-- The counts of the four quarter-frame events (R470). -/
abbrev QuarterFrameAt (n : Nat) : Prop := n = 3729 ∨ n = 7457 ∨ n = 11186 ∨ n = 14916

/-- A pulse channel after the APU cycle with the count `n`: sweep and timer, length counter, envelope (R470 to R472). -/
def Pulse.cycle (p : Pulse) (id : PulseId) (n : Nat) : Pulse :=
  { (if HalfFrameAt n then p.sweepTick id else p).timerTick with
    length := if HalfFrameAt n then lengthTick p.halt p.length else p.length
    env := if QuarterFrameAt n then p.env.tick else p.env }

/-- The noise channel after the APU cycle with the count `n`. -/
def Noise.cycle (n : Noise) (count : Nat) : Noise :=
  { n.timerTick with
    length := if HalfFrameAt count then lengthTick n.halt n.length else n.length
    env := if QuarterFrameAt count then n.env.tick else n.env }

theorem isHalfFrame_eq (n : Nat) : isHalfFrame n = decide (HalfFrameAt n) := by
  rw [Bool.eq_iff_iff]
  simp [isHalfFrame]

theorem isQuarterFrame_eq (n : Nat) : isQuarterFrame n = decide (QuarterFrameAt n) := by
  rw [Bool.eq_iff_iff]
  simp [isQuarterFrame, or_assoc]

/-- An APU cycle is one of each channel (R470). -/
theorem Apu.cycle_eq (u : Apu) :
    u.cycle =
      { u with
        seqCount := if u.seqCount + 1 = 14916 then 0 else u.seqCount + 1
        pulse1 := u.pulse1.cycle .one (u.seqCount + 1)
        pulse2 := u.pulse2.cycle .two (u.seqCount + 1)
        noise := u.noise.cycle (u.seqCount + 1) } := by
  simp only [Apu.cycle, isHalfFrame_eq, isQuarterFrame_eq, decide_eq_true_eq, Pulse.cycle, Noise.cycle]
  by_cases hhalf : HalfFrameAt (u.seqCount + 1)
  · have hquarter : QuarterFrameAt (u.seqCount + 1) := by omega
    simp only [if_pos hhalf, if_pos hquarter, Apu.quarterFrame, Apu.halfFrame, Pulse.halfFrame_with,
      Noise.halt, Envelope.tick_loop, Pulse.timerTick_with, Noise.timerTick_with]
  · by_cases hquarter : QuarterFrameAt (u.seqCount + 1)
    · simp only [if_neg hhalf, if_pos hquarter, Apu.quarterFrame, Pulse.timerTick_with, Noise.timerTick_with]
    · simp only [if_neg hhalf, if_neg hquarter, ← Pulse.timerTick_with, ← Noise.timerTick_with]

/-- R343, R470: the tick that starts an APU cycle. -/
theorem Apu.tick_of_cycle {u : Apu} (h : u.clock % 6 = 0) :
    u.tick =
      { clock := u.clock + 1
        seqCount := if u.seqCount + 1 = 14916 then 0 else u.seqCount + 1
        pulse1 := u.pulse1.cycle .one (u.seqCount + 1)
        pulse2 := u.pulse2.cycle .two (u.seqCount + 1)
        noise := u.noise.cycle (u.seqCount + 1) } := by
  simp only [Apu.tick, if_pos h, Apu.cycle_eq]

/-- The other five ticks only count (R343, R470). -/
theorem Apu.tick_of_wait {u : Apu} (h : u.clock % 6 ≠ 0) : u.tick = { u with clock := u.clock + 1 } := by
  simp only [Apu.tick, if_neg h]

/-- Settles O49: the steps unit by unit, and the cycle that runs them. -/
theorem apuChannelSteps : Obligations.ApuChannelSteps := by
  refine ⟨Envelope.tick_cases, Pulse.timerTick_cases, rfl, Noise.timerTick_cases, rfl, fun _ _ => rfl, fun _ => rfl,
    fun u => ⟨Apu.tick_of_wait, ?_⟩⟩
  rintro h p q rfl rfl
  rw [Apu.tick_of_cycle h]
  exact ⟨rfl, rfl, rfl⟩

/-- Settles O50: a tick starts an APU cycle or only counts. -/
theorem frameSequencer : Obligations.FrameSequencer := by
  intro u
  by_cases h : u.clock % 6 = 0
  · rw [Apu.tick_of_cycle h]
    simp only [h, true_and, if_true, Pulse.cycle, Noise.cycle, apply_ite BitVec.toNat, lengthTick_toNat, ite_and]
    exact ⟨rfl, rfl, rfl, trivial⟩
  · rw [Apu.tick_of_wait h]
    simp only [h, false_and, if_false, and_self]

/-! ### The sweep unit -/

/-- The target in integers (R485). -/
theorem Pulse.sweepTarget_eq (p : Pulse) (id : PulseId) :
    (p.sweepTarget id : Int) =
      if p.sweep.negate = false then
        (p.timerReload.toNat : Int) + p.timerReload.toNat / 2 ^ p.sweep.shift.toNat
      else if id = .one then max 0 ((p.timerReload.toNat : Int) - p.timerReload.toNat / 2 ^ p.sweep.shift.toNat - 1)
      else max 0 ((p.timerReload.toNat : Int) - p.timerReload.toNat / 2 ^ p.sweep.shift.toNat) := by
  have hchange : (p.timerReload.toNat / 2 ^ p.sweep.shift.toNat : Int) =
      ((p.timerReload.toNat >>> p.sweep.shift.toNat : Nat) : Int) := by
    rw [Nat.shiftRight_eq_div_pow]
    push_cast
    rfl
  simp only [Pulse.sweepTarget, hchange]
  generalize p.timerReload.toNat >>> p.sweep.shift.toNat = c
  cases p.sweep.negate with
  | false => rfl
  | true =>
    cases id with
    | one =>
      simp only [if_true, Bool.true_eq_false, if_false]
      omega
    | two =>
      simp only [if_true, Bool.true_eq_false, if_false, reduceCtorEq]
      omega

/-- When the sweep's clock retunes the period: the divider at 0, the unit on, shifting and not muted (R486). -/
def Pulse.Retunes (p : Pulse) (id : PulseId) : Prop :=
  p.sweep.div = 0 ∧ p.sweep.enable = true ∧ p.sweep.shift ≠ 0 ∧ p.sweepMute id = false

/-- R486: the period and the sweep unit after a clock of the sweep. -/
theorem Pulse.sweepTick_eq (p : Pulse) (id : PulseId) :
    ∃ (w : BitVec 11) (d : BitVec 3),
      p.sweepTick id = { p with timerReload := w, sweep := { p.sweep with div := d, reload := false } } ∧
      (p.Retunes id → w = BitVec.ofNat 11 (p.sweepTarget id)) ∧ (¬p.Retunes id → w = p.timerReload) ∧
      d = if p.sweep.div = 0 ∨ p.sweep.reload = true then p.sweep.period else p.sweep.div - 1 := by
  have hretune : (p.sweep.div == 0 && p.sweep.enable && p.sweep.shift != 0 && !p.sweepMute id) = true ↔
      p.Retunes id := by
    simp [Pulse.Retunes, and_assoc]
  unfold Pulse.sweepTick
  dsimp only
  by_cases hdiv : p.sweep.div = 0 ∨ p.sweep.reload = true
  · rw [if_pos hdiv, if_pos hdiv]
    exact ⟨_, _, rfl, fun h => if_pos (hretune.mpr h), fun h => if_neg (hretune.not.mpr h), rfl⟩
  · have hreload : p.sweep.reload = false := by simp_all
    rw [if_neg hdiv, if_neg hdiv, ← hreload]
    exact ⟨_, _, rfl, fun h => if_pos (hretune.mpr h), fun h => if_neg (hretune.not.mpr h), rfl⟩

/-- Settles O51: the target in integers, and the clock by its condition. -/
theorem sweepUnit : Obligations.SweepUnit := by
  intro p id reload change target
  have htarget : (p.sweepTarget id : Int) = target := p.sweepTarget_eq id
  have hmute : p.sweepMute id = (decide (reload < 8) || decide (0x7FF < target)) := by
    rw [Pulse.sweepMute, ← htarget]
    simp only [reload]
    norm_cast
  have hretune : p.Retunes id ↔
      p.sweep.div = 0 ∧ p.sweep.enable = true ∧ p.sweep.shift ≠ 0 ∧ 8 ≤ reload ∧ target ≤ 0x7FF := by
    rw [Pulse.Retunes, hmute, Bool.or_eq_false_iff, decide_eq_false_iff_not, decide_eq_false_iff_not, not_lt, not_lt]
  obtain ⟨w, d, htick, hon, hoff, hd⟩ := p.sweepTick_eq id
  refine ⟨htarget, hmute, w, d, htick, ?_, ?_⟩
  · split
    · next h =>
      rw [hon (hretune.mpr h), BitVec.toNat_ofNat, ← htarget]
      obtain ⟨-, -, -, -, hle⟩ := h
      omega
    · next h => rw [hoff (hretune.not.mpr h)]
  · rw [hd]
    split
    · rfl
    · next h =>
      have hne : p.sweep.div ≠ 0 := fun h0 => h (.inl h0)
      bv_omega

end Sys2Proof.Machine
end

section
/-! The cartridge: Mapper1's serial register (R530), and the memories that the mappers show (R522 to R536). -/

namespace Sys2Proof.Machine

/-! ### The serial register -/

/-- The load register after a bit is written (R530). -/
def serialShift (load : BitVec 5) (b : Bool) : BitVec 5 := (load >>> 1) ||| (if b then 0x10 else 0x00)

theorem serialShift_toNat (load : BitVec 5) (b : Bool) :
    (serialShift load b).toNat = b.toNat * 16 + load.toNat / 2 := by
  have hlt := load.isLt
  have hlow : (load >>> 1).toNat = load.toNat / 2 := by rw [BitVec.toNat_ushiftRight, Nat.shiftRight_eq_div_pow]
  have hhigh : (if b then 0x10 else 0x00 : BitVec 5).toNat = b.toNat * 2 ^ 4 := by cases b <;> rfl
  rw [serialShift, BitVec.or_comm, toNat_or_of_parts hhigh (by omega), hlow]
  rfl

/-- A bit moves down by one at each write; the new one enters at the top. -/
theorem getLsbD_serialShift (load : BitVec 5) (b : Bool) {k : Nat} (h : k < 5) :
    (serialShift load b).getLsbD k = if k = 4 then b else load.getLsbD (k + 1) := by
  interval_cases k <;> cases b <;> simp [serialShift]

/-- A write before the fifth fills the load register (R530). -/
theorem Mapper1.serialWrite_fill {r : Mapper1} {v : Byte} (a : Word) (h7 : v.getLsbD 7 = false) (hcount : r.count ≠ 4) :
    r.serialWrite a v = { r with load := serialShift r.load (v.getLsbD 0), count := r.count + 1 } := by
  rw [Mapper1.serialWrite, if_neg (Bool.eq_false_iff.mp h7)]
  exact if_neg (by omega)

/-- The fifth write commits to the register that the address selects (R530). -/
theorem Mapper1.serialWrite_commit {r : Mapper1} {v : Byte} (a : Word) (h7 : v.getLsbD 7 = false)
    (hcount : r.count = 4) :
    r.serialWrite a v =
      { r with
        load := 0, count := 0
        control := if a.toNat / 8192 % 4 = 0 then serialShift r.load (v.getLsbD 0) else r.control
        chrLo := if a.toNat / 8192 % 4 = 1 then serialShift r.load (v.getLsbD 0) else r.chrLo
        chrHi := if a.toNat / 8192 % 4 = 2 then serialShift r.load (v.getLsbD 0) else r.chrHi
        prg := if a.toNat / 8192 % 4 = 3 then serialShift r.load (v.getLsbD 0) else r.prg } := by
  have hselect : (a.extractLsb' 13 2).toNat = a.toNat / 8192 % 4 := by
    rw [BitVec.extractLsb'_toNat, Nat.shiftRight_eq_div_pow]
  have hlt : a.toNat / 8192 % 4 < 4 := Nat.mod_lt _ (by decide)
  rw [Mapper1.serialWrite, if_neg (Bool.eq_false_iff.mp h7), hselect, hcount]
  generalize a.toNat / 8192 % 4 = n at hlt
  interval_cases n <;> rfl

/-- R530: a write with bit 7 set empties the loader and forces PRG mode 3. -/
theorem Mapper1.serialWrite_reset {v : Byte} (r : Mapper1) (a : Word) (h7 : v.getLsbD 7 = true) :
    r.serialWrite a v = { r with load := 0, count := 0, control := r.control ||| 0x0C } := by
  rw [Mapper1.serialWrite, if_pos h7]

/-- Five shifts replace the load register by their bits, the first one lowest (R530). -/
theorem serialShift_five (load value : BitVec 5) {bits : List Bool} (hlen : bits.length = 5)
    (h : ∀ (k : Nat) (hk : k < bits.length), value.getLsbD k = bits[k]) : bits.foldl serialShift load = value := by
  obtain ⟨b0, b1, b2, b3, b4, rfl⟩ : ∃ b0 b1 b2 b3 b4, bits = [b0, b1, b2, b3, b4] := by
    match bits, hlen with
    | [b0, b1, b2, b3, b4], _ => exact ⟨_, _, _, _, _, rfl⟩
  refine BitVec.eq_of_getLsbD_eq fun k hk => ?_
  rw [h k hk]
  interval_cases k <;> simp [getLsbD_serialShift, -BitVec.getLsbD_eq_getElem]

/-- Writes before the fifth, one after another (R530). -/
theorem Mapper1.serialWrites_fill (r : Mapper1) (ws : List (Word × Byte)) (h7 : ∀ w ∈ ws, w.2.getLsbD 7 = false)
    (hcount : r.count + ws.length ≤ 4) :
    ws.foldl (fun q w => q.serialWrite w.1 w.2) r =
      { r with load := (ws.map fun w => w.2.getLsbD 0).foldl serialShift r.load, count := r.count + ws.length } := by
  induction ws generalizing r with
  | nil => rfl
  | cons w ws ih =>
    rw [List.length_cons] at hcount
    rw [List.foldl_cons, Mapper1.serialWrite_fill _ (h7 w List.mem_cons_self) (by omega),
      ih _ (fun x hx => h7 x (List.mem_cons_of_mem w hx)) (by simp only; omega)]
    simp only [List.map_cons, List.foldl_cons, List.length_cons, Nat.add_assoc, Nat.add_comm 1]

/-! ### What the cartridge claims -/

/-- A read that the cartridge claims has no side effect (R84). -/
theorem State.memRead_claimed {s : State} {a : Word} {v : Byte} (h : s.cart.cpuRead a = some v) :
    s.memRead a = { value := v, state := s } := by
  rw [State.memRead, h]

/-- A write that the cartridge claims is its own (R85). -/
theorem State.memWrite_claimed {s : State} {c : Cartridge} {a : Word} {v : Byte} (h : s.cart.cpuWrite a v = some c) :
    s.memWrite a v = (s.noteWrite v).setCart c := by
  rw [State.memWrite, State.decodeWrite, State.noteWrite_cart, h]

/-- PRG-RAM ends below PRG ROM (R531). -/
theorem inPrgRam_of_rom {a : Word} (h : 0x8000 ≤ a) : inPrgRam a = false := by
  have : ¬a ≤ (0x7FFF : Word) := by bv_omega
  simp only [inPrgRam, this, decide_false, Bool.and_false]

theorem inPrgRam_of_mem {a : Word} (h1 : 0x6000 ≤ a) (h2 : a ≤ 0x7FFF) : inPrgRam a = true := by
  simp only [inPrgRam, h1, h2, decide_true, Bool.and_self]

/-- A write to PRG ROM through Mapper1 is a serial write (R532). -/
theorem Cartridge.cpuWrite_serial {c : Cartridge} {r : Mapper1} (h : c.mapper = .mapper1 r) {a : Word} (v : Byte)
    (ha : 0x8000 ≤ a) : c.cpuWrite a v = some { c with mapper := .mapper1 (r.serialWrite a v) } := by
  simp only [Cartridge.cpuWrite, h, inPrgRam_of_rom ha, ha, if_true, if_false, Bool.false_eq_true]

/-- Settles O52: five writes are four that fill the load register and one that commits it. -/
theorem serialLoad : Obligations.SerialLoad := by
  refine ⟨fun r writes last value hcount hlen h7 hlast hbits => ?five, fun r a v h7 hcount => ?fill,
    fun r a v h7 => r.serialWrite_reset a h7,
    fun s r a v hmapper ha => State.memWrite_claimed (Cartridge.cpuWrite_serial hmapper v ha)⟩
  case fill => exact ⟨_, serialShift_toNat _ _, Mapper1.serialWrite_fill a h7 (by omega)⟩
  case five =>
    have hvalue := serialShift_five r.load value (bits := writes.map fun w => w.2.getLsbD 0) (by simpa using hlen)
      fun k hk => by simpa only [List.getElem_map] using hbits k (by simpa using hk)
    obtain rfl | ⟨ws, w, rfl⟩ := List.eq_nil_or_concat' writes
    · cases hlen
    rw [List.length_append, List.length_singleton] at hlen
    have hfour : ws.length = 4 := by omega
    simp only [List.getLast?_append, List.getLast?_singleton, Option.some_or, Option.map_some,
      Option.some.injEq] at hlast
    rw [List.map_append, List.foldl_append] at hvalue
    rw [List.foldl_append, r.serialWrites_fill ws (fun x hx => h7 x (List.mem_append_left _ hx)) (by omega),
      List.foldl_cons, List.foldl_nil, Mapper1.serialWrite_commit _ (h7 w (by simp)) (by simp only; omega), hlast]
    simp only [List.map_cons, List.map_nil, List.foldl_cons, List.foldl_nil] at hvalue
    simp only [hvalue]

/-! ### PRG ROM -/

/-- R522: a write changes no ROM through Mapper0. -/
theorem Cartridge.cpuWrite_mapper0 {c : Cartridge} (h : c.mapper = .mapper0) {a : Word} (v : Byte) (ha : 0x8000 ≤ a) :
    c.cpuWrite a v = some c := by
  simp only [Cartridge.cpuWrite, h, ha, if_true]

/-- R522: one bank is mirrored, two are not. -/
theorem mapper0PrgOffset_eq (banks : Nat) (a : Word) :
    mapper0PrgOffset banks a = a.toNat % (if 1 < banks then 0x8000 else 0x4000) := by
  unfold mapper0PrgOffset
  split
  · exact toNat_and_lowMask a (n := 15) rfl
  · exact toNat_and_lowMask a (n := 14) rfl

/-- R534: the PRG mode in numbers. -/
theorem Mapper1.prgMode_eq (r : Mapper1) : r.prgMode = r.control.toNat / 4 % 4 := by
  rw [Mapper1.prgMode, BitVec.extractLsb'_toNat, Nat.shiftRight_eq_div_pow]

/-- R535, in numbers. -/
theorem mapper1PrgOffset_eq (r : Mapper1) (banks : Nat) (a : Word) :
    mapper1PrgOffset r banks a =
      if r.control.toNat / 4 % 4 < 2 then r.prg.toNat / 2 % 8 * 0x8000 + a.toNat % 0x8000
      else if r.control.toNat / 4 % 4 = 2 then
        (if a.toNat < 0xC000 then a.toNat % 0x4000 else r.prg.toNat % 16 * 0x4000 + a.toNat % 0x4000)
      else
        (if a.toNat < 0xC000 then r.prg.toNat % 16 * 0x4000 + a.toNat % 0x4000
         else (banks - 1) * 0x4000 + a.toNat % 0x4000) := by
  have h14 : (a &&& 0x3FFF).toNat = a.toNat % 0x4000 := toNat_and_lowMask a (n := 14) rfl
  have h15 : (a &&& 0x7FFF).toNat = a.toNat % 0x8000 := toNat_and_lowMask a (n := 15) rfl
  have hbank : (r.prg.extractLsb' 0 4).toNat = r.prg.toNat % 16 := BitVec.extractLsb'_toNat ..
  have hpair : (r.prg.extractLsb' 1 3).toNat = r.prg.toNat / 2 % 8 := by
    rw [BitVec.extractLsb'_toNat, Nat.shiftRight_eq_div_pow]
  have hlow : a < 0xC000 ↔ a.toNat < 0xC000 := BitVec.lt_def
  have hlt : r.control.toNat / 4 % 4 < 4 := Nat.mod_lt _ (by decide)
  simp only [mapper1PrgOffset, r.prgMode_eq, h14, h15, hbank, hpair, hlow]
  generalize r.control.toNat / 4 % 4 = mode at hlt
  interval_cases mode
  · rfl
  · rfl
  · simp
  · simp

theorem Cartridge.prgIndex_mapper0 {c : Cartridge} (h : c.mapper = .mapper0) (a : Word) :
    c.prgIndex a = mapper0PrgOffset c.prgBanks a % (c.prgBanks * 16384) := by
  rw [Cartridge.prgIndex, h, Cartridge.prgSize]

theorem Cartridge.prgIndex_mapper1 {c : Cartridge} {r : Mapper1} (h : c.mapper = .mapper1 r) (a : Word) :
    c.prgIndex a = mapper1PrgOffset r c.prgBanks a % (c.prgBanks * 16384) := by
  rw [Cartridge.prgIndex, h, Cartridge.prgSize]

/-! ### PRG-RAM -/

theorem prgRamIndex_eq {a : Word} (h1 : 0x6000 ≤ a) (h2 : a ≤ 0x7FFF) : prgRamIndex a = a.toNat - 0x6000 := by
  have hmod : prgRamIndex a = a.toNat % 0x2000 := toNat_and_lowMask a (n := 13) rfl
  rw [hmod]
  bv_omega

/-- R531: Mapper1 shows its PRG-RAM. -/
theorem State.memRead_prgRam {s : State} {r : Mapper1} (h : s.cart.mapper = .mapper1 r) {a : Word} (h1 : 0x6000 ≤ a)
    (h2 : a ≤ 0x7FFF) : s.memRead a = { value := r.prgRam.read (a.toNat - 0x6000), state := s } := by
  refine State.memRead_claimed ?_
  simp only [Cartridge.cpuRead, h, inPrgRam_of_mem h1 h2, if_true, prgRamIndex_eq h1 h2]

/-- R532: and stores in it. -/
theorem Cartridge.cpuWrite_prgRam {c : Cartridge} {r : Mapper1} (h : c.mapper = .mapper1 r) {a : Word} (v : Byte)
    (h1 : 0x6000 ≤ a) (h2 : a ≤ 0x7FFF) :
    c.cpuWrite a v =
      some { c with mapper := .mapper1 { r with prgRam := r.prgRam.write (a.toNat - 0x6000) v } } := by
  simp only [Cartridge.cpuWrite, h, inPrgRam_of_mem h1 h2, if_true, prgRamIndex_eq h1 h2]

/-! ### Pattern memory -/

/-- Below 0x2000 a read is the cartridge's (R110, R521). -/
theorem State.ppuRead_pattern {s : State} {a : PpuAddr} {v : Byte} (ha : a ≤ 0x1FFF) (h : s.cart.ppuRead a = some v) :
    s.ppuRead a = v := by
  rw [State.ppuRead, if_neg (by bv_omega), h]

/-- So is a write (R111, R521). -/
theorem State.ppuWrite_pattern {s : State} {c : Cartridge} {a : PpuAddr} {v : Byte} (ha : a ≤ 0x1FFF)
    (h : s.cart.ppuWrite a v = some c) : s.ppuWrite a v = s.setCart c := by
  rw [State.ppuWrite, if_neg (by bv_omega), h]

/-- R536, in numbers, for a pattern address. -/
theorem mapper1ChrOffset_eq (r : Mapper1) {a : PpuAddr} (ha : a ≤ 0x1FFF) :
    mapper1ChrOffset r a =
      if r.control.toNat < 16 then r.chrLo.toNat / 2 * 0x2000 + a.toNat
      else if a.toNat < 0x1000 then r.chrLo.toNat * 0x1000 + a.toNat
      else r.chrHi.toNat * 0x1000 + a.toNat % 0x1000 := by
  have h12 : (a &&& 0x0FFF).toNat = a.toNat % 0x1000 := toNat_and_lowMask a (n := 12) rfl
  have h13 : (a &&& 0x1FFF).toNat = a.toNat % 0x2000 := toNat_and_lowMask a (n := 13) rfl
  have hbank : (r.chrLo.extractLsb' 1 4).toNat = r.chrLo.toNat / 2 := by
    have := r.chrLo.isLt
    rw [BitVec.extractLsb'_toNat, Nat.shiftRight_eq_div_pow]
    omega
  have hmode : r.chrMode = true ↔ ¬r.control.toNat < 16 := by
    have hbit := toNat_getLsbD r.control 4
    have := r.control.isLt
    rw [Mapper1.chrMode]
    cases hmode : r.control.getLsbD 4 with
    | false =>
      have hzero : 0 = r.control.toNat / 16 % 2 := (congrArg Bool.toNat hmode).symm.trans hbit
      exact iff_of_false Bool.false_ne_true (by omega)
    | true =>
      have hone : 1 = r.control.toNat / 16 % 2 := (congrArg Bool.toNat hmode).symm.trans hbit
      exact iff_of_true rfl (by omega)
  have hlow : a < 0x1000 ↔ a.toNat < 0x1000 := BitVec.lt_def
  have hle : a.toNat ≤ 0x1FFF := BitVec.le_def.mp ha
  simp only [mapper1ChrOffset, h12, h13, hbank, hmode, hlow, ite_not]
  split_ifs <;> omega

theorem Cartridge.chrIndex_mapper0 {c : Cartridge} (h : c.mapper = .mapper0) (banks : Nat) (a : PpuAddr) :
    c.chrIndex banks a = a.toNat % (banks * 8192) := by
  rw [Cartridge.chrIndex, h]

theorem Cartridge.chrIndex_mapper1 {c : Cartridge} {r : Mapper1} (h : c.mapper = .mapper1 r) (banks : Nat)
    (a : PpuAddr) :
    c.chrIndex banks a = mapper1ChrOffset r a % (banks * 8192) := by
  rw [Cartridge.chrIndex, h]

/-- Settles O53: what each mapper claims, and where it stands in PRG, PRG-RAM and pattern memory. -/
theorem cartridgeMemory : Obligations.CartridgeMemory := by
  refine ⟨fun c a ha => ⟨fun h => ?prg0, fun r h => ?prg1⟩,
    fun s a v h ha => State.memWrite_claimed (Cartridge.cpuWrite_mapper0 h v ha),
    fun s r a b v h ha1 ha2 hb1 hb2 => ?prgRam, fun s a v ha => ⟨fun data h => ?chrRam, fun banks data h => ?chrRom⟩⟩
  case prg0 => rw [c.cpuRead_rom ha, Cartridge.prgIndex_mapper0 h, mapper0PrgOffset_eq]
  case prg1 => rw [c.cpuRead_rom ha, Cartridge.prgIndex_mapper1 h, mapper1PrgOffset_eq]
  case prgRam =>
    have hwrite := State.memWrite_claimed (Cartridge.cpuWrite_prgRam h v ha1 ha2)
    refine ⟨State.memRead_prgRam h ha1 ha2, hwrite, fun hwf => ?_⟩
    have hindex : a.toNat - 0x6000 = b.toNat - 0x6000 ↔ a = b := by bv_omega
    have hafter := State.memRead_prgRam (s := s.memWrite a v) (congrArg (·.cart.mapper) hwrite) hb1 hb2
    rw [hafter, State.memRead_prgRam h hb1 hb2]
    exact (Memory.read_write hwf _ _ v).trans (if_congr hindex rfl rfl)
  case chrRam =>
    have hclaim : ¬0x1FFF < a := by bv_omega
    exact ⟨State.ppuRead_pattern ha (by rw [Cartridge.ppuRead, if_neg hclaim, h]),
      State.ppuWrite_pattern ha (by rw [Cartridge.ppuWrite, if_neg hclaim, h])⟩
  case chrRom =>
    have hclaim : ¬0x1FFF < a := by bv_omega
    have hread : s.ppuRead a = data.read (s.cart.chrIndex banks a) :=
      State.ppuRead_pattern ha (by rw [Cartridge.ppuRead, if_neg hclaim, h])
    refine ⟨State.ppuWrite_pattern ha (by rw [Cartridge.ppuWrite, if_neg hclaim, h]), fun hm => ?_, fun r hm => ?_⟩
    · rw [hread, Cartridge.chrIndex_mapper0 hm]
    · rw [hread, Cartridge.chrIndex_mapper1 hm, mapper1ChrOffset_eq r ha]

end Sys2Proof.Machine
end

section
/-! Interrupt entry (R566): what it pushes, and the machine it leaves. -/

namespace Sys2Proof.Machine

/-- R300: the status image of an interrupt has bit 4 clear and bit 5 set. -/
theorem pushedP_false (p : Byte) : pushedP p false = (p &&& 0xCF) ||| 0x20 :=
  BitVec.or_zero

/-- Settles O31: both vectors lie in program memory, so that entry is the frame, B and I, then `PC` and `cyc`. -/
theorem interruptEntry : Obligations.InterruptEntry := by
  intro s vector cost hvector
  have hrom : 0x8000 ≤ vector ∧ 0x8000 ≤ vector + 1 := by obtain rfl | rfl := hvector <;> decide
  obtain ⟨lo, hi, hlo, hhi, hentry⟩ := s.enterInterrupt_eq hrom.1 hrom.2 cost
  have hflag := s.enterInterrupt_flag vector cost
  refine ⟨_, lo, hi, rfl, hlo, hhi, ?cpu, hflag .i, hflag .b, fun f hf => ?kept, ?ram, ?openBus, ?rest⟩
  case kept =>
    obtain ⟨hni, hnb⟩ : f ≠ .i ∧ f ≠ .b := by simpa using hf
    rw [hflag, if_neg hni, if_neg hnb]
  all_goals rw [hentry, State.pushFrame_eq, pushedP_false]
  case cpu => simp [CpuIs]
  case ram => simp [State.setFlag_eq]
  case openBus => simp [State.setFlag_eq]
  case rest =>
    have hpushed := ((SameOutsideRam.refl s).noteWrite (highByte s.cpu.pc)).noteWrite (lowByte s.cpu.pc)
    exact (((((hpushed.noteWrite _).setRam _).setS _).setFlag _ _).setFlag _ _).setPc _ |>.setCyc _

end Sys2Proof.Machine
end

section
/-! The ticks that a reset leaves before the first instruction (R600, R603). -/

namespace Sys2Proof.Machine

/-- `t` is the machine `n` ticks after a reset to `s`, while the CPU counts down: a CPU clock at every count that 3
divides (R342), nothing pending, and the picture unit on its first line. -/
structure State.CountsDown (s : State) (n : Nat) (t : State) : Prop where
  clock : t.clock = n
  dma : t.dma.enable = false
  cpu : t.cpu = { s.cpu with cyc := 8 - (n + 2) / 3 }
  ram : t.ram = s.ram
  nmi : t.ppu.nmiPending = false
  irq : t.cart.irqState = false
  scanline : t.ppu.scanline = 0
  cycle : t.ppu.cycle = n

/-- A reset starts the count (R52, R600). -/
theorem State.countsDown_hostReset (s : State) : (hostReset s).CountsDown 0 (hostReset s) := by
  obtain ⟨t, lo, hi, rfl, -, -, hcpu, hclock, hdma, -, -, hppu, -, -, -, hmapper0, hmapper1, -⟩ := resetValues s
  refine ⟨hclock, by rw [hdma], by rw [hcpu], rfl, by rw [hppu], ?_, by rw [hppu], by rw [hppu]⟩
  cases hm : s.cart.mapper with
  | mapper0 => rw [hmapper0 hm]
  | mapper1 r => rw [hmapper1 r hm]

/-- With no request the end of a tick only counts it (R345). -/
theorem State.endTick_of_quiet {s : State} (hnmi : s.ppu.nmiPending = false) (hirq : s.cart.irqState = false) :
    s.endTick = s.setClock (s.clock + 1) := by
  rw [State.endTick, State.arbiter_of_noNmi hnmi, State.serviceIrq_of_none hirq]

/-- A tick goes on with the count (R341, R342). -/
theorem State.CountsDown.step {s t u : State} {n : Nat} (h : s.CountsDown n t) (hn : n < 24)
    (hs : Machine.step t = .next u) : s.CountsDown (n + 1) u := by
  obtain ⟨hcpu, hram, -, -, -, -, -, hclock, hdma, hcart, -⟩ := t.deviceClock_frame
  have hpicture := t.ppuClock_step
  have hcyc : t.deviceClock.cpu.cyc = 8 - (n + 2) / 3 := by rw [hcpu, h.cpu]
  obtain ⟨v, rfl, hv⟩ := step_cases hs
  obtain rfl : v = t.deviceClock.setCyc (8 - (n + 1 + 2) / 3) := by
    rw [hclock, h.clock] at hv
    rcases hv with ⟨hslot, rfl⟩ | ⟨-, henable, -⟩ | ⟨hslot, -, hclocked⟩
    · rw [show 8 - (n + 1 + 2) / 3 = t.deviceClock.cpu.cyc by omega]
      rfl
    · rw [hdma, h.dma] at henable
      cases henable
    · rw [State.cpuClock_of_running (by omega)] at hclocked
      cases hclocked
      rw [State.countDown, hcyc, show 8 - (n + 2) / 3 - 1 = 8 - (n + 1 + 2) / 3 by omega]
  have hnmi : t.deviceClock.ppu.nmiPending = false := by
    rw [State.deviceClock_ppu, hpicture.nmiPending, h.nmi, h.scanline]
    rfl
  have hline : t.ppu.cycle + 1 ≠ 341 := by rw [h.cycle]; omega
  have hirq : t.deviceClock.cart.irqState = false := (congrArg Cartridge.irqState hcart).trans h.irq
  rw [State.endTick_of_quiet (s := t.deviceClock.setCyc (8 - (n + 1 + 2) / 3)) hnmi hirq]
  exact {
    clock := congrArg (· + 1) (hclock.trans h.clock)
    dma := (congrArg Dma.enable hdma).trans h.dma
    cpu := by
      change { t.deviceClock.cpu with cyc := 8 - (n + 1 + 2) / 3 } = _
      rw [hcpu, h.cpu]
    ram := hram.trans h.ram
    nmi := hnmi
    irq := hirq
    scanline := hpicture.scanline.trans ((if_neg hline).trans h.scanline)
    cycle := hpicture.cycle.trans ((if_neg hline).trans (congrArg (· + 1) h.cycle)) }

/-- So do `n` ticks, up to the 24th. -/
theorem State.CountsDown.run {s t u : State} {m n : Nat} (h : s.CountsDown m t) (hn : m + n ≤ 24)
    (hrun : core.run n t = .next u) : s.CountsDown (m + n) u := by
  induction n generalizing m t with
  | zero =>
    cases hrun
    exact h
  | succ n ih =>
    obtain ⟨v, hv⟩ := step_next t
    simp only [Host.Core.run, show core.step t = .next v from hv] at hrun
    rw [show m + (n + 1) = m + 1 + n by omega]
    exact ih (h.step (by omega) hv) (by omega) hrun

/-- Settles O56: `cyc` is 8 at the reset and goes down at the counts 0, 3, ..., 21. -/
theorem firstInstruction : Obligations.FirstInstruction := by
  intro s
  refine ⟨?_, fun n t hn hrun => ?_⟩
  · obtain ⟨t, ht⟩ := (hostReset s).safeFor 24
    have h := s.countsDown_hostReset.run (n := 24) (by decide) ht
    obtain ⟨-, -, -, rfl, -, -, -, -, -, -, -, -, -, hram, -⟩ := resetValues s
    exact ⟨t, ht, h.clock, h.dma, h.cpu, h.ram.trans hram⟩
  · rintro ⟨hslot, -, hcyc⟩
    have h := s.countsDown_hostReset.run (by omega) hrun
    rw [h.clock] at hslot
    rw [h.cpu] at hcyc
    have hzero : 8 - (0 + n + 2) / 3 = 0 := hcyc
    omega

end Sys2Proof.Machine
end
